-- ==== Sys2Proof/Word.lean ====
section
/-! DEFINITION. The word types of the PEC read block: register words, bytes and binary32 bit patterns (00_scope.md R7, R13). -/

namespace Sys2Proof

/-- A register of the window, or a command word: 32 bits (R7, R80). -/
abbrev Word := BitVec 32

/-- The bus data unit, the check byte, a byte buffer: 8 bits (R7). -/
abbrev Byte := BitVec 8

/-- The bit pattern of a binary32 value (R13: `bits32`). CEL_REG and FAH_REG hold such patterns (R40). -/
abbrev Binary32 := BitVec 32

end Sys2Proof
end

