-- ==== Sys2Proof/Syntax.lean ====
section
/-! DEFINITION. The commands of the block (one constructor per row of spec/opcode_table.json), the reasons a command word
is rejected for, and the names of the registers of the window. -/

namespace Sys2Proof

/-- The six commands of 30_encoding.md R82. A command is the block's instruction (R3). -/
inductive Instr where
  /-- NOP: nothing (R182). -/
  | nop
  /-- CFG: ADDR_MODE = w[8], CLK_SEL = w[31:16] (R83, R181). -/
  | cfg (addrMode : BitVec 1) (clkSel : BitVec 16)
  /-- READ: start one reading (R100). -/
  | read
  /-- CRC_INIT: set the CRC accumulator to its initial value (R144). -/
  | crcInit
  /-- CRC_BYTE: fold BYTE = w[15:8] into the accumulator (R83, R145). -/
  | crcByte (byte : Byte)
  /-- CLEAR: forget the last outcome and the rejection flag (R183). -/
  | clear
deriving DecidableEq, Repr

/-- The values STATUS.REJ_REASON takes (R32). Codes 6 and 7 are never written, so they have no name. -/
inductive RejReason where
  | none
  | busy
  | reservedOpcode
  | reservedField
  | addrModeUnsupported
  | notConfigured
deriving DecidableEq, Repr

/-- The eight registers of the window (R22). -/
inductive Reg where
  | cmd
  | status
  | config
  | data
  | celsius
  | fahrenheit
  | crc
  | param
deriving DecidableEq, Repr

end Sys2Proof
end

