-- ==== Sys2Proof/WellFormed.lean ====
section
/-! DEFINITION. Well-formed commands: no operand takes a value that 30_encoding.md R86 reserves.
Every term of `Instr` has an encoding (the operands' types are the fields of R83), and the decoder also reads the words of
ill-formed terms: the spec rejects those only after the BUSY test (R81), so it is their meaning that rejects them. -/

namespace Sys2Proof

/-- R86: CFG's ADDR_MODE = 1 and CLK_SEL = 0 are the reserved operand values. No other operand has one. -/
def Instr.wellFormed : Instr → Bool
  | .nop => true
  | .cfg addrMode clkSel => addrMode == 0#1 && clkSel != 0#16
  | .read => true
  | .crcInit => true
  | .crcByte _ => true
  | .clear => true

end Sys2Proof
end

