-- ==== Sys2Proof/Decode.lean ====
section
/-! DEFINITION. The command decoder (30_encoding.md R80-R88), total on every word and rejecting by name, and after it the
encoder (R89) and the rows of spec/opcode_table.json. The decoder decides what a word is; whether the command may run now
(BUSY, reserved operand values, NOT_CONFIGURED) is decided by its meaning, in the order of R81. -/

namespace Sys2Proof

/-- Field OP, w[3:0] (R80). -/
def opField (w : Word) : BitVec 4 := w.extractLsb' 0 4

/-- CFG's operand ADDR_MODE, w[8] (R83). -/
def addrModeField (w : Word) : BitVec 1 := w.extractLsb' 8 1

/-- CFG's operand CLK_SEL, w[31:16] (R83). -/
def clkSelField (w : Word) : BitVec 16 := w.extractLsb' 16 16

/-- CRC_BYTE's operand BYTE, w[15:8] (R83). -/
def byteField (w : Word) : Byte := w.extractLsb' 8 8

/-- `ALLOWED(op)` of R81: the bits the opcode may have set. A reserved opcode has none; R81 never asks. -/
def allowedBits (op : BitVec 4) : Word :=
  match op.toNat with
  | 0 => 0x00000000#32
  | 1 => 0xFFFF010F#32
  | 2 => 0x0000000F#32
  | 3 => 0x0000000F#32
  | 4 => 0x0000FF0F#32
  | 5 => 0x0000000F#32
  | _ => 0x00000000#32

/-- What the decoder makes of a word. -/
inductive Decoded where
  | command (i : Instr)
  | rejected (reason : RejReason)
deriving DecidableEq, Repr

/-- The decoding part of R81: first RESERVED_OPCODE (R84), then RESERVED_FIELD for reserved bits (R85), then the command
of the opcode map (R82) with its operands as they stand (R83). -/
def decode (w : Word) : Decoded :=
  if 5 < (opField w).toNat then .rejected .reservedOpcode
  else if w &&& ~~~ allowedBits (opField w) ≠ 0#32 then .rejected .reservedField
  else
    match (opField w).toNat with
    | 0 => .command .nop
    | 1 => .command (.cfg (addrModeField w) (clkSelField w))
    | 2 => .command .read
    | 3 => .command .crcInit
    | 4 => .command (.crcByte (byteField w))
    | 5 => .command .clear
    | _ => .rejected .reservedOpcode

/-- The opcode of a command (R82). -/
def Instr.opcode : Instr → BitVec 4
  | .nop => 0x0#4
  | .cfg _ _ => 0x1#4
  | .read => 0x2#4
  | .crcInit => 0x3#4
  | .crcByte _ => 0x4#4
  | .clear => 0x5#4

/-- The word of a command (R89): one word, whatever the command (R88). -/
def encode : Instr → Word
  | .nop => 0x00000000#32
  | .cfg addrMode clkSel => (clkSel.setWidth 32 <<< 16) ||| (addrMode.setWidth 32 <<< 8) ||| 0x1#32
  | .read => 0x00000002#32
  | .crcInit => 0x00000003#32
  | .crcByte byte => (byte.setWidth 32 <<< 8) ||| 0x4#32
  | .clear => 0x00000005#32

/-- A row of spec/opcode_table.json: the words `w` with `w & mask = bits` (the table's "mask" and "match"). -/
structure OpcodeRow where
  mnemonic : String
  bits : Word
  mask : Word
deriving DecidableEq, Repr

/-- The word is one of the row's. -/
def OpcodeRow.matches (r : OpcodeRow) (w : Word) : Bool := w &&& r.mask == r.bits

/-- spec/opcode_table.json, row by row. The decoder is written from R81 and not from this table: that the two agree is a
statement about the model. -/
def opcodeTable : List OpcodeRow :=
  [ ⟨"NOP", 0x00000000#32, 0xFFFFFFFF#32⟩,
    ⟨"CFG", 0x00000001#32, 0x0000FEFF#32⟩,
    ⟨"READ", 0x00000002#32, 0xFFFFFFFF#32⟩,
    ⟨"CRC_INIT", 0x00000003#32, 0xFFFFFFFF#32⟩,
    ⟨"CRC_BYTE", 0x00000004#32, 0xFFFF00FF#32⟩,
    ⟨"CLEAR", 0x00000005#32, 0xFFFFFFFF#32⟩ ]

/-- The mnemonic of a command, as the table spells it. -/
def Instr.mnemonic : Instr → String
  | .nop => "NOP"
  | .cfg _ _ => "CFG"
  | .read => "READ"
  | .crcInit => "CRC_INIT"
  | .crcByte _ => "CRC_BYTE"
  | .clear => "CLEAR"

/-- The command word the table's bits `w` stand for: the low `nbits` bits of `w`, all bits above them 0. A command is one
32-bit word (R88) whose bit 0 is its least significant bit (R9), so no words or bytes are laid out. -/
def tableWord (nbits w : Nat) : Word := BitVec.ofNat 32 (w % 1 <<< nbits)

/-- What the decoder reads from the command word with the table's bits `w`; `none` where it rejects the word. -/
def decodeTableWord (nbits w : Nat) : Option Instr :=
  match decode (tableWord nbits w) with
  | .command i => some i
  | .rejected _ => none

end Sys2Proof
end

