-- ==== Sys2Proof/Bus.lean ====
section
/-! DEFINITION. The vocabulary of the two-wire bus at the level of byte primitives (00_scope.md R11, 41_sequencer.md R102):
the answer sets of R103, the events of the history (R114), and one draw from the oracle. -/

namespace Sys2Proof

/-- The answer set of `BusStart()`, `BusRestart()` and `BusStop()` (R103). -/
inductive LineAnswer where
  | ok
  | arbLost
  | timeout
deriving DecidableEq, Repr, Inhabited

/-- The answer set of `BusWrite(b)` (R103). -/
inductive WriteAnswer where
  | ack
  | nack
  | arbLost
  | timeout
deriving DecidableEq, Repr, Inhabited

/-- The answer set of `BusRead(ack)` (R103). -/
inductive ReadAnswer where
  | data (v : Byte)
  | arbLost
  | timeout
deriving DecidableEq, Repr, Inhabited

/-- What the block sends after a received byte (R11). -/
inductive AckBit where
  | ack
  | nack
deriving DecidableEq, Repr

/-- The failure answers, those that end a reading (R115, R116). -/
inductive BusFailure where
  | nack
  | arbLost
  | timeout
deriving DecidableEq, Repr

/-- One draw from the bus oracle: the answer it would give to each kind of primitive. The primitive performed takes the
one of its own kind, so that an answer is always a member of the primitive's set (R103). Log entry 5. -/
structure BusDraw where
  line : LineAnswer
  write : WriteAnswer
  read : ReadAnswer
deriving DecidableEq, Repr, Inhabited

/-- One event of the bus history: a primitive, its argument and its answer (R114). -/
inductive BusEvent where
  | start (answer : LineAnswer)
  | restart (answer : LineAnswer)
  | write (byte : Byte) (answer : WriteAnswer)
  | read (reply : AckBit) (answer : ReadAnswer)
  | stop (answer : LineAnswer)
  | release
  | configure (addrMode : BitVec 1) (clkSel : BitVec 16)
deriving DecidableEq, Repr

end Sys2Proof
end

