-- ==== Sys2Proof/Config.lean ====
section
/-! DEFINITION. What a build of the block fixes (00_scope.md R6) and the free values of the model. -/

namespace Sys2Proof

/-- The OPEN parameters of R6. "A model takes each as an argument": they are data of the state that no step changes.
BASE is a multiple of 32 (R61), so its 32-byte block number is held. Log entries 1, 2 and 3. -/
structure Params where
  /-- BASE / 32 (R61). -/
  window : Nat
  /-- DEV_ADDR, the sensor's 7-bit device address. -/
  devAddr : BitVec 7
  /-- REG_SEL, the register selector of the object temperature. -/
  regSel : Byte
  /-- T_TIMEOUT in milliseconds. No rule reads it (R241, R246). -/
  timeoutMs : Nat
deriving DecidableEq, Repr

/-- The base address of the register window (R61). -/
def Params.base (p : Params) : Nat := 32 * p.window

/-- The defaults of R6 (DEV_ADDR 0x5A, REG_SEL 0x07, T_TIMEOUT 1 second). BASE has no default:
DESIGN CHOICE 0, log entry 1. -/
def Params.default : Params :=
  { window := 0, devAddr := 0x5A#7, regSel := 0x07#8, timeoutMs := 1000 }

/-- FREE VALUE. The oracle's draw number n when no answer is listed in the state: any answer (R103, B6 and B7 of
93_implementation_defined.md). It has no body, so nothing can be proved of it. Log entry 4. -/
opaque Config.freeDraw : Nat → BusDraw

/-- FREE VALUE. Sign and payload bits of a NaN that a binary32 operation makes from its two operands: IEEE 754 leaves them
open. CONVERT never makes a NaN (R166). Log entry 13. -/
opaque Config.freeNanBits : Binary32 → Binary32 → Binary32

end Sys2Proof
end

