-- ==== Sys2Proof/Machine/State.lean ====
section
/-! DEFINITION. The state of the PEC read block as plain data (10_state.md R40 and R46, 41_sequencer.md R114, 00_scope.md R6),
the inputs it has still to take (events and oracle answers), the ways a step can stop, and the state after reset. -/

namespace Sys2Proof.Machine

/-- The sequencer's states (R25). The reserved codes 0xC-0xF are never held, so they have no name. -/
inductive SeqState where
  | idle
  | start
  | txWaddr
  | txReg
  | rstart
  | txRaddr
  | rxLsb
  | rxMsb
  | rxPec
  | stop
  | validate
  | convert
deriving DecidableEq, Repr

/-- STATUS.OUTCOME (R27). -/
inductive ReadOutcome where
  | none
  | ok
  | busError
  | integrityError
deriving DecidableEq, Repr

/-- STATUS.BUSERR_CAUSE (R28). -/
inductive BusErrCause where
  | none
  | nack
  | arbLost
  | timeout
deriving DecidableEq, Repr

/-- Direction of a host access (R62). -/
inductive AccessKind where
  | read
  | write
deriving DecidableEq, Repr

/-- One access of the host (R62): a byte address, a byte count, and for a write the value. A value is held in 32 bits; an
access with another byte count faults before its value matters (R205a). Log entry 21. -/
inductive HostAccess where
  | read (addr n : Nat)
  | write (addr n : Nat) (v : Word)
deriving DecidableEq, Repr

/-- The atomic events of an execution (R70). -/
inductive Event where
  | host (access : HostAccess)
  | sequencer
  | reset
deriving DecidableEq, Repr

/-- What the host bus returned for one access: a read's value, a write's completion, or a HostAccessFault with its address,
byte count and direction (R62, R204). -/
inductive HostResponse where
  | readData (addr : Nat) (v : Word)
  | writeDone (addr : Nat)
  | accessFault (addr n : Nat) (kind : AccessKind)
deriving DecidableEq, Repr

/-- Why a step stops with a fault. -/
inductive Fault where
  /-- Raised by `performAccess` for a host access whose address lies outside [BASE, BASE + 0x1F]: the block does not decode
  it, and what it reaches is the platform's business (R61). SAFE: the model stops, and claims nothing of the platform. -/
  | outsideWindow (addr n : Nat) (kind : AccessKind)
deriving DecidableEq, Repr

/-- Why a step is refused. -/
inductive Refusal where
  /-- Raised by `exec` for a command with no meaning yet. SAFE. No arm raises it: every command has its meaning. -/
  | notModelled (mnemonic : String)
deriving DecidableEq, Repr

/-- Everything the spec gives the block, and the inputs still to come. -/
structure State where
  /-- STATE (R25). BUSY is a function of it (R26), and so is bus ownership (R41). -/
  seqState : SeqState
  /-- OUTCOME (R27). -/
  outcome : ReadOutcome
  /-- BUSERR_CAUSE (R28). -/
  busErrCause : BusErrCause
  /-- ERR_STATE (R31): the STATE in which the BusError occurred, IDLE (0x0) where there was none. -/
  errState : SeqState
  /-- CMD_REJECTED (R29). -/
  cmdRejected : Bool
  /-- REJ_REASON (R32). -/
  rejReason : RejReason
  /-- CFG_DONE (R30). -/
  cfgDone : Bool
  /-- CONFIG.ADDR_MODE (R33). -/
  addrMode : BitVec 1
  /-- CONFIG.CLK_SEL (R33). -/
  clkSel : BitVec 16
  /-- CRC_ACC (R37, R40). -/
  crcAcc : Byte
  /-- LSB_BUF (R40). -/
  lsbBuf : Byte
  /-- MSB_BUF (R40). -/
  msbBuf : Byte
  /-- PEC_BUF (R40). -/
  pecBuf : Byte
  /-- CEL_REG (R45). -/
  celReg : Binary32
  /-- FAH_REG (R45). -/
  fahReg : Binary32
  /-- The bus event history, oldest first (R114). -/
  history : List BusEvent
  /-- The parameters of R6. -/
  params : Params
  /-- MODEL'S OWN: the events still to come, in order (R70). Log entry 6. -/
  events : List Event
  /-- MODEL'S OWN: the oracle's answers still to come (R103). Log entry 4. -/
  answers : List BusDraw
  /-- MODEL'S OWN: how many unlisted answers were drawn so far. Log entry 4. -/
  freeDraws : Nat
  /-- MODEL'S OWN: what the host bus returned to the host, oldest first (R62, R204). Log entry 10. -/
  responses : List HostResponse
deriving DecidableEq, Repr

/-- The block with parameters `p` right after its first reset: every element as R46 says, nothing recorded, no input listed. -/
def State.resetWith (p : Params) : State :=
  { seqState := .idle
    outcome := .none
    busErrCause := .none
    errState := .idle
    cmdRejected := false
    rejReason := .none
    cfgDone := false
    addrMode := 0#1
    clkSel := 0x0000#16
    crcAcc := 0x00#8
    lsbBuf := 0x00#8
    msbBuf := 0x00#8
    pecBuf := 0x00#8
    celReg := 0x00000000#32
    fahReg := 0x00000000#32
    history := []
    params := p
    events := []
    answers := []
    freeDraws := 0
    responses := [] }

/-- The machine right after reset, with the default parameters (R6, R46). -/
def State.reset : State := State.resetWith Params.default

end Sys2Proof.Machine
end

