-- ==== Sys2Proof/Machine/Ops.lean ====
section
/-! DEFINITION. The named operations on the state that the meanings share: taking an input, recording on the bus history and
on the host's responses, the bus primitives (00_scope.md R11), rejecting a command (44_control.md R185), ending a reading with
a BusError (41_sequencer.md R116), and reset (70_reset_and_hazards.md R230, R231). The block has no traps (60_exceptions.md
R206): `reject` and `failBus` are the whole effect of its errors. -/

namespace Sys2Proof.Machine

/-- STATUS.BUSY: 1 exactly when STATE is not IDLE (R26). -/
def State.busy (s : State) : Bool := s.seqState != .idle

/-- The block owns the two-wire bus exactly in STATE START to STOP (R41). Outside them the lines are released. -/
def State.ownsBus (s : State) : Bool :=
  match s.seqState with
  | .start | .txWaddr | .txReg | .rstart | .txRaddr | .rxLsb | .rxMsb | .rxPec | .stop => true
  | .idle | .validate | .convert => false

/-! ## Inputs and records -/

/-- The state with its first listed event taken (R70). -/
def State.popEvent (s : State) : State := { s with events := s.events.tail }

/-- The host bus returns `r` to the host. No state of the block changes. -/
def State.respond (r : HostResponse) (s : State) : State := { s with responses := s.responses ++ [r] }

/-- One more event on the bus history (R114). -/
def State.record (e : BusEvent) (s : State) : State := { s with history := s.history ++ [e] }

/-- The answers the oracle gives to the next primitive: the listed ones, else a free value (R103). -/
def State.nextDraw (s : State) : BusDraw :=
  match s.answers with
  | d :: _ => d
  | [] => Config.freeDraw s.freeDraws

/-- The state after the next draw is taken. -/
def State.drawn (s : State) : State :=
  match s.answers with
  | _ :: ds => { s with answers := ds }
  | [] => { s with freeDraws := s.freeDraws + 1 }

/-! ## Bus primitives (R11). Each takes its answer from the oracle and is recorded (R114). -/

/-- `BusStart()`. -/
def busStart (s : State) : LineAnswer × State :=
  (s.nextDraw.line, s.drawn.record (.start s.nextDraw.line))

/-- `BusRestart()`. -/
def busRestart (s : State) : LineAnswer × State :=
  (s.nextDraw.line, s.drawn.record (.restart s.nextDraw.line))

/-- `BusWrite(b)`. -/
def busWrite (b : Byte) (s : State) : WriteAnswer × State :=
  (s.nextDraw.write, s.drawn.record (.write b s.nextDraw.write))

/-- `BusRead(ack)`. -/
def busRead (reply : AckBit) (s : State) : ReadAnswer × State :=
  (s.nextDraw.read, s.drawn.record (.read reply s.nextDraw.read))

/-- `BusStop()`. -/
def busStop (s : State) : LineAnswer × State :=
  (s.nextDraw.line, s.drawn.record (.stop s.nextDraw.line))

/-- `BusRelease()`: always completes, no answer. -/
def busRelease (s : State) : State := s.record .release

/-- `BusConfigure(mode, clk)`: always completes, no answer. -/
def busConfigure (addrMode : BitVec 1) (clkSel : BitVec 16) (s : State) : State :=
  s.record (.configure addrMode clkSel)

/-! ## Errors -/

/-- `reject reason` (R185): the two status fields and nothing else. -/
def reject (reason : RejReason) (s : State) : State :=
  { s with cmdRejected := true, rejReason := reason }

/-- BUSERR_CAUSE of a failure answer (R115). -/
def failureCause : BusFailure → BusErrCause
  | .nack => .nack
  | .arbLost => .arbLost
  | .timeout => .timeout

/-- What `fail_bus` does on the bus (R116): after a NACK a STOP whose answer is not consulted, then the release; after
ARB_LOST or TIMEOUT the release only. -/
def giveUpBus (a : BusFailure) (s : State) : State :=
  match a with
  | .nack => busRelease (busStop s).2
  | .arbLost => busRelease s
  | .timeout => busRelease s

/-- `fail_bus(s, a)` (R116): the reading ends with BusError in state `c` for the failure `a`. The byte buffers and CRC_ACC
keep what they hold. -/
def failBus (c : SeqState) (a : BusFailure) (s : State) : State :=
  { giveUpBus a s with
    outcome := .busError
    busErrCause := failureCause a
    errState := c
    seqState := .idle }

/-! ## Reset -/

/-- The reset event (R230, R231): every state element to its value of R46; while the block owns the bus, `BusRelease()` is
performed and recorded. The history, the parameters, and what the outside has still to do or has been told are no state
elements of R46 and stay. -/
def applyReset (s : State) : State :=
  { State.resetWith s.params with
    history := if s.ownsBus then s.history ++ [.release] else s.history
    events := s.events
    answers := s.answers
    freeDraws := s.freeDraws
    responses := s.responses }

end Sys2Proof.Machine
end

