-- ==== Sys2Proof/Machine/Control.lean ====
section
/-! DEFINITION. The control commands NOP, CFG and CLEAR (44_control.md R181-R183). -/

namespace Sys2Proof.Machine

/-- NOP (R182): nothing, also while BUSY. -/
def execNop (s : State) : Host.Outcome State Fault Refusal := .next s

/-- The effect of an accepted CFG (R181). -/
def configure (addrMode : BitVec 1) (clkSel : BitVec 16) (s : State) : State :=
  { busConfigure addrMode clkSel s with addrMode := addrMode, clkSel := clkSel, cfgDone := true }

/-- CFG (R181), after the rejections in the order of R81: BUSY, ADDR_MODE_UNSUPPORTED, RESERVED_FIELD for CLK_SEL = 0. -/
def execCfg (addrMode : BitVec 1) (clkSel : BitVec 16) (s : State) : Host.Outcome State Fault Refusal :=
  .next
    (if s.busy then reject .busy s
    else if addrMode = 1#1 then reject .addrModeUnsupported s
    else if clkSel = 0#16 then reject .reservedField s
    else configure addrMode clkSel s)

/-- CLEAR (R183): rejected while BUSY, else the last outcome and the rejection flag are forgotten. -/
def execClear (s : State) : Host.Outcome State Fault Refusal :=
  .next
    (if s.busy then reject .busy s
    else
      { s with
        outcome := .none
        busErrCause := .none
        errState := .idle
        cmdRejected := false
        rejReason := .none })

end Sys2Proof.Machine
end

