-- ==== Sys2Proof/Machine/Operands.lean ====
section
/-! DEFINITION. The operands the block makes from its parameters, its buffers and a host address: the address bytes
(30_encoding.md R90), the PEC input (R92), the raw reading (43_scaler.md R161), and the register a host address selects
(20_memory.md R61). A command's own operands are fields of its word, taken in Sys2Proof/Decode.lean (R83). -/

namespace Sys2Proof.Machine

/-- WADDR = (DEV_ADDR << 1) | 0 (R90). -/
def waddr (p : Params) : Byte := (p.devAddr.setWidth 8 <<< 1) ||| 0#8

/-- RADDR = (DEV_ADDR << 1) | 1 (R90). -/
def raddr (p : Params) : Byte := (p.devAddr.setWidth 8 <<< 1) ||| 1#8

/-- The PEC input of a reading in CRC order (R92). -/
def pecInput (p : Params) (lsb msb : Byte) : List Byte := [waddr p, p.regSel, raddr p, lsb, msb]

/-- The raw reading {MSB, LSB} (R161). -/
def rawReading (msb lsb : Byte) : BitVec 16 := (msb.setWidth 16 <<< 8) ||| lsb.setWidth 16

/-- The offset of a register in the window (R22). -/
def regOffset : Reg → Nat
  | .cmd => 0x00
  | .status => 0x04
  | .config => 0x08
  | .data => 0x0C
  | .celsius => 0x10
  | .fahrenheit => 0x14
  | .crc => 0x18
  | .param => 0x1C

/-- The address of a register (R22). -/
def regAddr (p : Params) (r : Reg) : Nat := p.base + regOffset r

/-- The address lies in [BASE, BASE + 0x1F], the addresses the block decodes (R61). -/
def inWindow (p : Params) (addr : Nat) : Bool := p.base ≤ addr && addr < p.base + 32

/-- The register that host address bits [4:2] select (R61). -/
def regAt (addr : Nat) : Reg :=
  match addr / 4 % 8 with
  | 0 => .cmd
  | 1 => .status
  | 2 => .config
  | 3 => .data
  | 4 => .celsius
  | 5 => .fahrenheit
  | 6 => .crc
  | _ => .param

/-- An access the block accepts: 4 bytes at an address with bits [1:0] = 0 (R62). -/
def accessAccepted (addr n : Nat) : Bool := n == 4 && addr % 4 == 0

end Sys2Proof.Machine
end

