-- ==== Sys2Proof/Machine/Crc.lean ====
section
/-! DEFINITION. The CRC-8/PEC engine (42_validator.md R140, R141) and the two diagnostic commands (R144, R145). -/

namespace Sys2Proof.Machine

/-- POLY, the low 8 bits of the generator x^8 + x^2 + x + 1 (R6, R140). -/
def poly : Byte := 0x07#8

/-- CRC_INIT_VAL (R6, R141). -/
def crcInitVal : Byte := 0x00#8

/-- One of the eight rounds of R140: shift left, and XOR with POLY if the top bit was set. -/
def crcRound (a : Byte) : Byte := if a.msb then (a <<< 1) ^^^ poly else a <<< 1

/-- `n` rounds. -/
def crcRounds : Nat → Byte → Byte
  | 0, a => a
  | n + 1, a => crcRounds n (crcRound a)

/-- `crc8_step(acc, b)` (R140). -/
def crc8Step (acc b : Byte) : Byte := crcRounds 8 (acc ^^^ b)

/-- `crc8(seq)`, the left fold of `crc8_step` from the initial value (R141). -/
def crc8 (seq : List Byte) : Byte := seq.foldl crc8Step crcInitVal

/-- Fold one byte into CRC_ACC (R143, R145). -/
def foldByte (b : Byte) (s : State) : State := { s with crcAcc := crc8Step s.crcAcc b }

/-- CRC_INIT (R144): rejected while BUSY, else CRC_ACC to its initial value. -/
def execCrcInit (s : State) : Host.Outcome State Fault Refusal :=
  .next (if s.busy then reject .busy s else { s with crcAcc := crcInitVal })

/-- CRC_BYTE (R145): rejected while BUSY, else one fold. -/
def execCrcByte (byte : Byte) (s : State) : Host.Outcome State Fault Refusal :=
  .next (if s.busy then reject .busy s else foldByte byte s)

end Sys2Proof.Machine
end

