-- ==== Sys2Proof/Machine/Binary32.lean ====
section
/-! DEFINITION. IEEE 754 binary32 multiply, subtract and add on bit patterns, each rounded once with roundTiesToEven
(00_scope.md R13). A finite pattern stands for m * 2^(q - 149) with a sign, where m < 2^24; a result is computed exactly as a
natural number times a power of two and then rounded. -/

namespace Sys2Proof.Machine

/-- The sign bit. -/
def signBit (x : Binary32) : Bool := x.msb

/-- The exponent field, x[30:23]. -/
def expField (x : Binary32) : Nat := (x.extractLsb' 23 8).toNat

/-- The fraction field, x[22:0]. -/
def fracField (x : Binary32) : Nat := (x.extractLsb' 0 23).toNat

/-- An infinity or a NaN. -/
def isSpecial (x : Binary32) : Bool := expField x == 255

/-- A NaN. -/
def isNaN (x : Binary32) : Bool := isSpecial x && fracField x != 0

/-- An infinity. -/
def isInf (x : Binary32) : Bool := isSpecial x && fracField x == 0

/-- +0.0 or -0.0. -/
def isZero (x : Binary32) : Bool := expField x == 0 && fracField x == 0

/-- A normal number: neither zero, nor subnormal, nor infinite, nor a NaN. -/
def isNormal (x : Binary32) : Bool := expField x != 0 && !isSpecial x

/-- The significand m of a finite pattern, with its hidden bit. -/
def significand (x : Binary32) : Nat := if expField x = 0 then fracField x else fracField x + 0x800000

/-- The scale q of a finite pattern: its value is m * 2^(q - 149). -/
def scale (x : Binary32) : Nat := expField x - 1

/-- A finite pattern's value times 2^149, an integer. -/
def scaledValue (x : Binary32) : Int :=
  if signBit x then -((significand x <<< scale x : Nat) : Int) else ((significand x <<< scale x : Nat) : Int)

/-- m / 2^d to the nearest natural number, ties to even. -/
def roundShift (m d : Nat) : Nat :=
  if 1 <<< d < 2 * (m % 1 <<< d) then (m >>> d) + 1
  else if 2 * (m % 1 <<< d) = 1 <<< d then (m >>> d) + (m >>> d) % 2
  else m >>> d

/-- The pattern with the sign and the low 31 bits given (`magnitude` < 2^31). -/
def withSign (negative : Bool) (magnitude : Nat) : Binary32 :=
  BitVec.ofNat 32 (if negative then 0x80000000 + magnitude else magnitude)

/-- The scale a magnitude m * 2^(x - 298) is rounded at: that of a 24-bit significand, and never below the subnormals'. -/
def roundScale (m x : Nat) : Nat := Nat.log2 m + x - 172

/-- m * 2^(x - 298) rounded to a significand at `roundScale m x`. -/
def roundedSignificand (m x : Nat) : Nat :=
  if 149 + roundScale m x ≤ x then m <<< (x - (149 + roundScale m x)) else roundShift m (149 + roundScale m x - x)

/-- The exact number m * 2^(x - 298), with a sign, rounded once to binary32 (R13). The low 31 bits are the scale above the
significand's fraction, so that a carry out of the significand moves into the exponent; past the largest finite number lies
the infinity. -/
def roundExact (negative : Bool) (m x : Nat) : Binary32 :=
  if m = 0 then withSign negative 0
  else withSign negative (Nat.min (roundScale m x * 0x800000 + roundedSignificand m x) 0x7F800000)

/-- A quiet NaN made from two operands; its sign and payload are free bits. -/
def nanOf (a b : Binary32) : Binary32 := 0x7FC00000#32 ||| Config.freeNanBits a b

/-- `f32(n)` (R13): the binary32 value of an integer, exact for n < 2^24. -/
def f32 (n : Nat) : Binary32 := roundExact false n 298

/-- `mul32(a, b)` (R13). -/
def mul32 (a b : Binary32) : Binary32 :=
  if isNaN a || isNaN b then nanOf a b
  else if isInf a || isInf b then
    if isZero a || isZero b then nanOf a b else withSign (signBit a != signBit b) 0x7F800000
  else roundExact (signBit a != signBit b) (significand a * significand b) (scale a + scale b)

/-- The sum of two finite numbers, rounded once: both are aligned to the smaller scale `q`. An exact zero sum of numbers of
opposite signs is +0.0. -/
def addFinite (a b : Binary32) : Binary32 :=
  let q := Nat.min (scale a) (scale b)
  let ma := significand a <<< (scale a - q)
  let mb := significand b <<< (scale b - q)
  if signBit a = signBit b then roundExact (signBit a) (ma + mb) (q + 149)
  else if ma = mb then withSign false 0
  else if mb < ma then roundExact (signBit a) (ma - mb) (q + 149)
  else roundExact (signBit b) (mb - ma) (q + 149)

/-- `add32(a, b)` (R13). -/
def add32 (a b : Binary32) : Binary32 :=
  if isNaN a || isNaN b then nanOf a b
  else if isInf a then if isInf b && signBit a != signBit b then nanOf a b else a
  else if isInf b then b
  else addFinite a b

/-- The pattern with its sign bit flipped. -/
def neg32 (a : Binary32) : Binary32 := a ^^^ 0x80000000#32

/-- `sub32(a, b)` (R13). -/
def sub32 (a b : Binary32) : Binary32 := if isNaN a || isNaN b then nanOf a b else add32 a (neg32 b)

end Sys2Proof.Machine
end

