-- ==== Sys2Proof/Machine/Scaler.lean ====
section
/-! DEFINITION. The temperature linear scaler (43_scaler.md R160-R164): four operations in the order of R162, one rounding
each, nothing fused (R163). -/

namespace Sys2Proof.Machine

/-- K_LSB, the binary32 nearest to 0.02 (R160). -/
def kLsb : Binary32 := 0x3CA3D70A#32

/-- K_OFF, the binary32 nearest to 273.15 (R160). -/
def kOff : Binary32 := 0x43889333#32

/-- F_MUL, the binary32 nearest to 1.8 (R160). -/
def fMul : Binary32 := 0x3FE66666#32

/-- F_OFF, 32.0 (R160). -/
def fOff : Binary32 := 0x42000000#32

/-- k, the rounded kelvin value (R162). No register holds it. -/
def kelvinOf (raw : BitVec 16) : Binary32 := mul32 (f32 raw.toNat) kLsb

/-- c, from the rounded kelvin (R162, R163). -/
def celsiusOf (raw : BitVec 16) : Binary32 := sub32 (kelvinOf raw) kOff

/-- f, from a rounded Celsius value: a rounded multiply and then a rounded add (R162, R163). -/
def fahrenheitFrom (c : Binary32) : Binary32 := add32 (mul32 c fMul) fOff

/-- f of a raw reading (R162). Every raw value is converted (R164). -/
def fahrenheitOf (raw : BitVec 16) : Binary32 := fahrenheitFrom (celsiusOf raw)

end Sys2Proof.Machine
end

