-- ==== Sys2Proof/Machine/Sequencer.lean ====
section
/-! DEFINITION. READ (41_sequencer.md R100) and the two-wire transaction sequencer: one definition per state
(R104-R112, 42_validator.md R146, 43_scaler.md R162), and the sequencer's step (R101). -/

namespace Sys2Proof.Machine

/-- The effect of an accepted READ (R100): the data path is as a reset leaves it and STATE is START. No bus primitive. -/
def startReading (s : State) : State :=
  { s with
    outcome := .none
    busErrCause := .none
    errState := .idle
    crcAcc := crcInitVal
    lsbBuf := 0x00#8
    msbBuf := 0x00#8
    pecBuf := 0x00#8
    celReg := 0x00000000#32
    fahReg := 0x00000000#32
    seqState := .start }

/-- READ (R100), after the rejections in the order of R81: BUSY, NOT_CONFIGURED. -/
def execRead (s : State) : Host.Outcome State Fault Refusal :=
  .next
    (if s.busy then reject .busy s
    else if !s.cfgDone then reject .notConfigured s
    else startReading s)

/-- STATE moves to `c`. -/
def goTo (c : SeqState) (s : State) : State := { s with seqState := c }

/-- The end of a primitive answered OK, ARB_LOST or TIMEOUT in state `c`: on OK the sequencer moves to `next`. -/
def afterLine (c next : SeqState) : LineAnswer × State → State
  | (.ok, s) => goTo next s
  | (.arbLost, s) => failBus c .arbLost s
  | (.timeout, s) => failBus c .timeout s

/-- The end of a transmitted byte `b` in state `c`: on ACK the byte is folded (R143) and the sequencer moves to `next`. -/
def afterWrite (c next : SeqState) (b : Byte) : WriteAnswer × State → State
  | (.ack, s) => goTo next (foldByte b s)
  | (.nack, s) => failBus c .nack s
  | (.arbLost, s) => failBus c .arbLost s
  | (.timeout, s) => failBus c .timeout s

/-- The end of a received byte in state `c`: on DATA(v) the sequencer goes on as `keep v` says. -/
def afterRead (c : SeqState) (keep : Byte → State → State) : ReadAnswer × State → State
  | (.data v, s) => keep v s
  | (.arbLost, s) => failBus c .arbLost s
  | (.timeout, s) => failBus c .timeout s

/-- The first received byte goes to LSB_BUF and is folded (R109). -/
def keepLsb (v : Byte) (s : State) : State := goTo .rxMsb (foldByte v { s with lsbBuf := v })

/-- The second received byte goes to MSB_BUF and is folded (R110). -/
def keepMsb (v : Byte) (s : State) : State := goTo .rxPec (foldByte v { s with msbBuf := v })

/-- The check byte goes to PEC_BUF and is not folded (R111). -/
def keepPec (v : Byte) (s : State) : State := goTo .stop { s with pecBuf := v }

/-- START (R104). -/
def stepStart (s : State) : State := afterLine .start .txWaddr (busStart s)

/-- TX_WADDR (R105). -/
def stepTxWaddr (s : State) : State := afterWrite .txWaddr .txReg (waddr s.params) (busWrite (waddr s.params) s)

/-- TX_REG (R106). -/
def stepTxReg (s : State) : State := afterWrite .txReg .rstart s.params.regSel (busWrite s.params.regSel s)

/-- RSTART (R107): no STOP between the write part and the read part. -/
def stepRstart (s : State) : State := afterLine .rstart .txRaddr (busRestart s)

/-- TX_RADDR (R108). -/
def stepTxRaddr (s : State) : State := afterWrite .txRaddr .rxLsb (raddr s.params) (busWrite (raddr s.params) s)

/-- RX_LSB (R109): the byte is acknowledged. -/
def stepRxLsb (s : State) : State := afterRead .rxLsb keepLsb (busRead .ack s)

/-- RX_MSB (R110): the byte is acknowledged. -/
def stepRxMsb (s : State) : State := afterRead .rxMsb keepMsb (busRead .ack s)

/-- RX_PEC (R111): the byte is not acknowledged, which ends the read. -/
def stepRxPec (s : State) : State := afterRead .rxPec keepPec (busRead .nack s)

/-- STOP (R112). -/
def stepStop (s : State) : State := afterLine .stop .validate (busStop s)

/-- VALIDATE (R146): exact equality of the computed and the received check byte (R148). No bus primitive. -/
def stepValidate (s : State) : State :=
  if s.crcAcc = s.pecBuf then goTo .convert s
  else { s with outcome := .integrityError, seqState := .idle }

/-- CONVERT (R162): both temperatures in one step. No bus primitive. -/
def stepConvert (s : State) : State :=
  { s with
    celReg := celsiusOf (rawReading s.msbBuf s.lsbBuf)
    fahReg := fahrenheitOf (rawReading s.msbBuf s.lsbBuf)
    outcome := .ok
    seqState := .idle }

/-- The sequencer's step (R101, R113). In IDLE it has none, and the state stays. -/
def sequencerStep (s : State) : State :=
  match s.seqState with
  | .idle => s
  | .start => stepStart s
  | .txWaddr => stepTxWaddr s
  | .txReg => stepTxReg s
  | .rstart => stepRstart s
  | .txRaddr => stepTxRaddr s
  | .rxLsb => stepRxLsb s
  | .rxMsb => stepRxMsb s
  | .rxPec => stepRxPec s
  | .stop => stepStop s
  | .validate => stepValidate s
  | .convert => stepConvert s

end Sys2Proof.Machine
end

