-- ==== Sys2Proof/Machine/Dispatch.lean ====
section
/-! DEFINITION. One arm per command: which meaning runs it. -/

namespace Sys2Proof.Machine

open Sys2Proof

/-- The meaning of a decoded command in a state (44_control.md R180: it runs inside the CMD write that carries it). -/
def exec (i : Instr) (s : State) : Host.Outcome State Fault Refusal :=
  match i with
  | .nop => Sys2Proof.Machine.execNop s
  | .cfg addrMode clkSel => Sys2Proof.Machine.execCfg addrMode clkSel s
  | .read => Sys2Proof.Machine.execRead s
  | .crcInit => Sys2Proof.Machine.execCrcInit s
  | .crcByte byte => Sys2Proof.Machine.execCrcByte byte s
  | .clear => Sys2Proof.Machine.execClear s

end Sys2Proof.Machine
end

