-- ==== Sys2Proof/Machine/Flags.lean ====
section
/-! DEFINITION. The status fields, the block's only flags (10_state.md R44): their codes and the words the registers of the
window read as (R22-R39). Reads change nothing (20_memory.md R65), so a read is a function of the state. -/

namespace Sys2Proof.Machine

/-- The codes of STATE (R25). -/
def SeqState.code : SeqState → BitVec 4
  | .idle => 0x0#4
  | .start => 0x1#4
  | .txWaddr => 0x2#4
  | .txReg => 0x3#4
  | .rstart => 0x4#4
  | .txRaddr => 0x5#4
  | .rxLsb => 0x6#4
  | .rxMsb => 0x7#4
  | .rxPec => 0x8#4
  | .stop => 0x9#4
  | .validate => 0xA#4
  | .convert => 0xB#4

/-- The codes of OUTCOME (R27). -/
def ReadOutcome.code : ReadOutcome → BitVec 2
  | .none => 0#2
  | .ok => 1#2
  | .busError => 2#2
  | .integrityError => 3#2

/-- The codes of BUSERR_CAUSE (R28). -/
def BusErrCause.code : BusErrCause → BitVec 2
  | .none => 0#2
  | .nack => 1#2
  | .arbLost => 2#2
  | .timeout => 3#2

/-- The codes of REJ_REASON (R32). -/
def rejCode : RejReason → BitVec 3
  | .none => 0#3
  | .busy => 1#3
  | .reservedOpcode => 2#3
  | .reservedField => 3#3
  | .addrModeUnsupported => 4#3
  | .notConfigured => 5#3

/-- A one-bit field. -/
def flag (b : Bool) : BitVec 1 := BitVec.ofBool b

/-- A field at bit `lo` of a register, 0 in every other bit. -/
def place {n : Nat} (field : BitVec n) (lo : Nat) : Word := field.setWidth 32 <<< lo

/-- STATUS (R24): STATE [3:0], BUSY [4], OUTCOME [9:8], BUSERR_CAUSE [11:10], CMD_REJECTED [12], CFG_DONE [13],
ERR_STATE [19:16], REJ_REASON [22:20]; the reserved bits [7:5], [15:14] and [31:23] read 0 (R39). -/
def statusWord (s : State) : Word :=
  place (SeqState.code s.seqState) 0 ||| place (flag s.busy) 4 ||| place (ReadOutcome.code s.outcome) 8 |||
    place (BusErrCause.code s.busErrCause) 10 ||| place (flag s.cmdRejected) 12 ||| place (flag s.cfgDone) 13 |||
    place (SeqState.code s.errState) 16 ||| place (rejCode s.rejReason) 20

/-- CONFIG (R33): ADDR_MODE [0], CLK_SEL [31:16]; the reserved bits [15:1] read 0 (R39). -/
def configWord (s : State) : Word := place s.addrMode 0 ||| place s.clkSel 16

/-- The gate of DATA (R34): open when OUTCOME is OK or INTEGRITY_ERROR. -/
def dataGate (s : State) : Bool := s.outcome == .ok || s.outcome == .integrityError

/-- The gate CELSIUS and FAHRENHEIT share (R35, R36): open when OUTCOME is OK. -/
def resultGate (s : State) : Bool := s.outcome == .ok

/-- What a closed CELSIUS or FAHRENHEIT reads as: a quiet NaN (R35). -/
def gatedNaN : Binary32 := 0x7FC00000#32

/-- DATA (R34): {0x00, PEC_BUF, MSB_BUF, LSB_BUF} through its gate. -/
def dataWord (s : State) : Word :=
  if dataGate s then place s.lsbBuf 0 ||| place s.msbBuf 8 ||| place s.pecBuf 16 else 0x00000000#32

/-- PARAM (R38): DEV_ADDR [6:0], REG_SEL [15:8], POLY [23:16]; bits [7] and [31:24] read 0 (R39). -/
def paramWord (p : Params) : Word := place p.devAddr 0 ||| place p.regSel 8 ||| place poly 16

/-- `RegRead` (R62): what a read of a register returns (R22-R38). -/
def regRead (r : Reg) (s : State) : Word :=
  match r with
  | .cmd => 0x00000000#32
  | .status => statusWord s
  | .config => configWord s
  | .data => dataWord s
  | .celsius => if resultGate s then s.celReg else gatedNaN
  | .fahrenheit => if resultGate s then s.fahReg else gatedNaN
  | .crc => place s.crcAcc 0
  | .param => paramWord s.params

/-- Byte lane `j` of a word on a platform that lays the window out in bytes: bits [8j+7:8j] (R63). -/
def byteLane (w : Word) (j : Nat) : Byte := w.extractLsb' (8 * j) 8

end Sys2Proof.Machine
end

