-- ==== Sys2Proof/Machine/HostPort.lean ====
section
/-! DEFINITION. The host's accesses to the register window (20_memory.md R61-R67), the write to CMD (30_encoding.md R81), the
events of an execution (R70), the placing of a command as the next event, and the host-script statements of R89. -/

namespace Sys2Proof.Machine

/-- The command word `w` presented to the decoder (R23, R81): its meaning runs, or it is rejected. -/
def writeCommand (w : Word) (s : State) : Host.Outcome State Fault Refusal :=
  match decode w with
  | .command i => exec i s
  | .rejected reason => .next (reject reason s)

/-- `RegWrite` (R66): CMD takes a command word; a write to a read-only register has no effect. -/
def regWrite (r : Reg) (v : Word) (s : State) : Host.Outcome State Fault Refusal :=
  match r with
  | .cmd => writeCommand v s
  | .status | .config | .data | .celsius | .fahrenheit | .crc | .param => .next s

/-- `MemRead(addr, n)` (R62), at an address in the window. The value or the fault goes to the host. -/
def memRead (addr n : Nat) (s : State) : State :=
  if accessAccepted addr n then s.respond (.readData addr (regRead (regAt addr) s))
  else s.respond (.accessFault addr n .read)

/-- `MemWrite(addr, n, v)` (R62), at an address in the window. A faulting write is not decoded (R204). -/
def memWrite (addr n : Nat) (v : Word) (s : State) : Host.Outcome State Fault Refusal :=
  if accessAccepted addr n then regWrite (regAt addr) v (s.respond (.writeDone addr))
  else .next (s.respond (.accessFault addr n .write))

/-- One host access. Addresses outside the window are not decoded (R61). -/
def performAccess (a : HostAccess) (s : State) : Host.Outcome State Fault Refusal :=
  match a with
  | .read addr n =>
    if inWindow s.params addr then .next (memRead addr n s) else .fault (.outsideWindow addr n .read)
  | .write addr n v =>
    if inWindow s.params addr then memWrite addr n v s else .fault (.outsideWindow addr n .write)

/-- The next atomic event (R70): the first one listed. With none listed the host is silent and the sequencer steps, which it
does while STATE is not IDLE (R101); in IDLE the block holds its state (60_exceptions.md R214). -/
def nextEvent (s : State) : Host.Outcome State Fault Refusal :=
  match s.events with
  | [] => .next (sequencerStep s)
  | .host a :: _ => performAccess a s.popEvent
  | .sequencer :: _ => .next (sequencerStep s.popEvent)
  | .reset :: _ => .next (applyReset s.popEvent)

/-- The state in which the host's next access, before every event already listed, writes `w` to CMD. -/
def withCommand (w : Word) (s : State) : State :=
  { s with events := .host (.write (regAddr s.params .cmd) 4 w) :: s.events }

/-! ## Host-script statements (R89) -/

/-- `W <reg>, <imm32>`. -/
def hostW (p : Params) (r : Reg) (v : Word) : Event := .host (.write (regAddr p r) 4 v)

/-- `R <reg> -> <name>`: the value read is the response the access leaves. -/
def hostR (p : Params) (r : Reg) : Event := .host (.read (regAddr p r) 4)

/-- `CMD <mnemonic> [operands]`, a pseudo-instruction for `W CMD, <encoding>`. -/
def hostCmd (p : Params) (i : Instr) : Event := hostW p .cmd (encode i)

/-- `POLL <reg>.<field> == <v>`, a pseudo-instruction for one or more reads of the register; how often the loop comes round
is the interleaving's. `again` counts the reads after the first. -/
def hostPoll (p : Params) (r : Reg) (again : Nat) : List Event := List.replicate (again + 1) (hostR p r)

end Sys2Proof.Machine
end

