-- ==== Sys2Proof/Safety.lean ====
section
/-! DEFINITION. The terms claims are stated in: what holds of every state the block can reach, the decision procedure of
30_encoding.md R81 on raw words, the course of a whole reading on the wire, and runs of the sequencer alone. -/

namespace Sys2Proof.Machine

/-- A bus state, 0x1 to 0x9: the only states a BusError can occur in (R31, R201). -/
def SeqState.transacting (c : SeqState) : Bool :=
  c == .start || c == .txWaddr || c == .txReg || c == .rstart || c == .txRaddr || c == .rxLsb || c == .rxMsb
    || c == .rxPec || c == .stop

/-- The bytes folded into CRC_ACC so far by the reading in progress (R143); none while no reading is. -/
def foldedBytes (s : State) : Option (List Byte) :=
  match s.seqState with
  | .idle => none
  | .start | .txWaddr => some []
  | .txReg => some [waddr s.params]
  | .rstart | .txRaddr => some [waddr s.params, s.params.regSel]
  | .rxLsb => some [waddr s.params, s.params.regSel, raddr s.params]
  | .rxMsb => some [waddr s.params, s.params.regSel, raddr s.params, s.lsbBuf]
  | .rxPec | .stop | .validate | .convert => some (pecInput s.params s.lsbBuf s.msbBuf)

/-- The correct check byte of the data bytes held: the CRC of the PEC input (R92, R141). -/
def correctPec (s : State) : Byte := crc8 (pecInput s.params s.lsbBuf s.msbBuf)

/-- What holds in every state the block reaches, whatever the host and the bus do. -/
structure Consistent (s : State) : Prop where
  /-- BUSERR_CAUSE is nonzero exactly when OUTCOME is BUS_ERROR (R28). -/
  cause : s.busErrCause ≠ .none ↔ s.outcome = .busError
  /-- ERR_STATE is a bus state when OUTCOME is BUS_ERROR (R31). -/
  errBus : s.outcome = .busError → s.errState.transacting = true
  /-- ERR_STATE is 0 when OUTCOME is not BUS_ERROR (R31). -/
  errIdle : s.outcome ≠ .busError → s.errState = .idle
  /-- While a reading is in progress OUTCOME is NONE (R27). -/
  busyOutcome : s.busy = true → s.outcome = .none
  /-- A reading is only started once CFG was executed (R30). -/
  busyConfigured : s.busy = true → s.cfgDone = true
  /-- ADDR_MODE is 0, the only value CFG accepts (R33). -/
  addrMode : s.addrMode = 0#1
  /-- CLK_SEL is nonzero exactly when CFG was executed (R33, R86). -/
  clkSel : s.cfgDone = true ↔ s.clkSel ≠ 0#16
  /-- A reason is held exactly when a rejection is flagged (R29, R32). -/
  rejection : s.cmdRejected = true ↔ s.rejReason ≠ .none
  /-- CRC_ACC is the CRC of the bytes folded so far (R143). -/
  crc : ∀ seq, foldedBytes s = some seq → s.crcAcc = crc8 seq
  /-- CONVERT is entered with a matching check byte only (R146). -/
  matched : s.seqState = .convert → s.pecBuf = correctPec s
  /-- OUTCOME is OK only for bytes whose check byte matched, and the temperatures are theirs (R43). -/
  result : s.outcome = .ok →
    s.pecBuf = correctPec s ∧ s.celReg = celsiusOf (rawReading s.msbBuf s.lsbBuf) ∧
      s.fahReg = fahrenheitOf (rawReading s.msbBuf s.lsbBuf)
  /-- OUTCOME is INTEGRITY_ERROR only for bytes whose check byte did not match (R146, R202). -/
  mismatch : s.outcome = .integrityError → s.pecBuf ≠ correctPec s
  /-- While a reading is in progress, and after one that failed, both temperature registers hold +0.0 (R100, R146). -/
  noResult : s.busy = true ∨ s.outcome = .busError ∨ s.outcome = .integrityError →
    s.celReg = 0x00000000#32 ∧ s.fahReg = 0x00000000#32

/-- The rejections of R81, written as the spec writes them, on the word's bits and the state before the write. The masks
are the complements of ALLOWED(op). -/
def rejectionOf (w : Word) (s : State) : Option RejReason :=
  let op := (w.extractLsb' 0 4).toNat
  let outside : Word :=
    if op = 1 then 0x0000FEF0#32 else if op = 4 then 0xFFFF00F0#32 else if op = 0 then 0xFFFFFFFF#32 else 0xFFFFFFF0#32
  if 5 < op then some .reservedOpcode
  else if w &&& outside ≠ 0#32 then some .reservedField
  else if op = 0 then none
  else if s.seqState ≠ .idle then some .busy
  else if op = 1 ∧ w.getLsbD 8 = true then some .addrModeUnsupported
  else if op = 1 ∧ w.extractLsb' 16 16 = 0#16 then some .reservedField
  else if op = 2 ∧ s.cfgDone = false then some .notConfigured
  else none

/-- The words R81 executes, by opcode: what each leaves (R182, R181, R100, R144, R145, R183). -/
def effectOf (w : Word) (s : State) : State :=
  match (w.extractLsb' 0 4).toNat with
  | 1 =>
    { s with
      addrMode := w.extractLsb' 8 1
      clkSel := w.extractLsb' 16 16
      cfgDone := true
      history := s.history ++ [.configure (w.extractLsb' 8 1) (w.extractLsb' 16 16)] }
  | 2 => startReading s
  | 3 => { s with crcAcc := 0x00#8 }
  | 4 => { s with crcAcc := crc8Step s.crcAcc (w.extractLsb' 8 8) }
  | 5 =>
    { s with outcome := .none, busErrCause := .none, errState := .idle, cmdRejected := false, rejReason := .none }
  | _ => s

/-- An oracle's draw for a primitive answered OK, ACK or DATA(v): `GOOD` answers every primitive. -/
def goodDraw (v : Byte) : BusDraw := { line := .ok, write := .ack, read := .data v }

/-- `GOOD(lo, hi, pec)` of 95_test_vectors.md: the answers of a reading whose nine primitives all succeed. -/
def goodAnswers (lo hi pec : Byte) : List BusDraw :=
  [goodDraw 0, goodDraw 0, goodDraw 0, goodDraw 0, goodDraw 0, goodDraw lo, goodDraw hi, goodDraw pec, goodDraw 0]

/-- The nine events of a reading whose primitives all succeed, in bus order (R91, R114). -/
def goodEvents (p : Params) (lo hi pec : Byte) : List BusEvent :=
  [.start .ok, .write (waddr p) .ack, .write p.regSel .ack, .restart .ok, .write (raddr p) .ack,
    .read .ack (.data lo), .read .ack (.data hi), .read .nack (.data pec), .stop .ok]

/-- `n` sequencer steps with no other event between them. -/
def sequencerRun (n : Nat) (s : State) : State := sequencerStep^[n] s

/-- The next event is a host write of `w` to CMD that the block accepts as an access (R62). -/
def writesCommand (s : State) (w : Word) : Prop :=
  s.events.head? = some (.host (.write s.params.base 4 w))

/-- The next event is a reset. -/
def nextIsReset (s : State) : Prop := s.events.head? = some .reset

/-- The next event is the sequencer's, or the host is silent. -/
def nextIsSequencer (s : State) : Prop := s.events.head? = some .sequencer ∨ s.events = []

end Sys2Proof.Machine
end

