-- ==== Sys2Proof/Certificates/Slice0/Obligations.lean ====
section
/-! DEFINITION. The statements about the block, for the provers. -/

open Sys2Proof Sys2Proof.Machine

/-! ## Encoding -/

/-- R83, R89: every command, with every operand at every value its field admits, is what its word decodes to. -/
def Obligations.DecodeInvertsEncode : Prop :=
  ∀ i : Instr, decode (encode i) = .command i

/-- R82, R88: a word that decodes to a command is the one word of that command; no bit of it is dropped. -/
def Obligations.EncodeInvertsDecode : Prop :=
  ∀ (w : Word) (i : Instr), decode w = .command i → encode i = w

/-- spec/opcode_table.json against R81: a row matches exactly the words decoded to its mnemonic, and a word the decoder
rejects matches no row. -/
def Obligations.DecoderAgreesWithOpcodeTable : Prop :=
  ∀ w : Word,
    (∀ i, decode w = .command i → ∀ r ∈ opcodeTable, (r.matches w = true ↔ r.mnemonic = i.mnemonic)) ∧
    (∀ reason, decode w = .rejected reason → ∀ r ∈ opcodeTable, r.matches w = false)

/-- R82, R89 and the words of 95_test_vectors.md L2.4: what a few words mean. -/
def Obligations.SampleWordsDecode : Prop :=
  decode 0x00000000#32 = .command .nop ∧
  decode 0x00640001#32 = .command (.cfg 0#1 100#16) ∧
  decode 0x00640101#32 = .command (.cfg 1#1 100#16) ∧
  decode 0x00000002#32 = .command .read ∧
  decode 0x00000003#32 = .command .crcInit ∧
  decode 0x0000B404#32 = .command (.crcByte 0xB4#8) ∧
  decode 0x00000005#32 = .command .clear ∧
  decode 0x00000010#32 = .rejected .reservedField ∧
  decode 0xFFFFFFFF#32 = .rejected .reservedOpcode

/-- R84: a word with opcode 0x6 to 0xF is rejected as RESERVED_OPCODE in every state, with no other effect. -/
def Obligations.ReservedOpcodesAreRejected : Prop :=
  ∀ (w : Word) (s : State), 6 ≤ (w.extractLsb' 0 4).toNat →
    writeCommand w s = .next { s with cmdRejected := true, rejReason := .reservedOpcode }

/-- R85: a word with opcode 0x0 to 0x5 and a bit set that its command does not have is rejected as RESERVED_FIELD in every
state; so is every nonzero word with OP = 0. -/
def Obligations.ReservedBitsAreRejected : Prop :=
  ∀ (w : Word) (s : State),
    (w.extractLsb' 0 4 = 0#4 ∧ w ≠ 0#32) ∨
    (w.extractLsb' 0 4 = 1#4 ∧ w &&& 0x0000FEF0#32 ≠ 0#32) ∨
    ((w.extractLsb' 0 4 = 2#4 ∨ w.extractLsb' 0 4 = 3#4 ∨ w.extractLsb' 0 4 = 5#4) ∧ w &&& 0xFFFFFFF0#32 ≠ 0#32) ∨
    (w.extractLsb' 0 4 = 4#4 ∧ w &&& 0xFFFF00F0#32 ≠ 0#32) →
    writeCommand w s = .next { s with cmdRejected := true, rejReason := .reservedField }

/-- R81: every word written to CMD in every state is rejected for the first reason that applies, or executed; never both. -/
def Obligations.CommandWordsFollowTheDecisionProcedure : Prop :=
  ∀ (w : Word) (s : State),
    (∀ reason, rejectionOf w s = some reason →
      writeCommand w s = .next { s with cmdRejected := true, rejReason := reason }) ∧
    (rejectionOf w s = none → writeCommand w s = .next (effectOf w s))

/-! ## One step, one event -/

/-- R23, R67: a host write of a command word to CMD runs the decoded command in that same step. What the step adds around
`exec`: the event is taken and the host is told that its write completed. -/
def Obligations.StepRunsTheDecodedCommand : Prop :=
  ∀ (s : State) (w : Word) (i : Instr) (rest : List Event),
    s.events = .host (.write s.params.base 4 w) :: rest → decode w = .command i →
    step s = exec i { s with events := rest, responses := s.responses ++ [.writeDone s.params.base] }

/-- R23, R185, R208: a host write to CMD of a word that is no command sets the two rejection fields and nothing else of the
block, and completes normally on the host bus. -/
def Obligations.StepRejectsAWordThatIsNoCommand : Prop :=
  ∀ (s : State) (w : Word) (reason : RejReason) (rest : List Event),
    s.events = .host (.write s.params.base 4 w) :: rest → decode w = .rejected reason →
    step s = .next { s with
      events := rest
      responses := s.responses ++ [.writeDone s.params.base]
      cmdRejected := true
      rejReason := reason }

/-- The model's choice (log entry 16): a command placed with withFetchWord is run by the very next step, in every state. -/
def Obligations.PlacedCommandRunsNext : Prop :=
  ∀ (s : State) (w : Nat) (i : Instr), decode (BitVec.ofNat 32 w) = .command i → w < 4294967296 →
    step (s.withFetchWord 32 w) = exec i { s with responses := s.responses ++ [.writeDone s.params.base] }

/-- R65: a read of any register, whatever comes next, returns the register's value and changes no state of the block; a
second read with no event in between returns the same value. That the host bus's returns are recorded in State.responses is
the model's form (log entry 10). -/
def Obligations.ReadsHaveNoSideEffects : Prop :=
  ∀ (s : State) (r : Reg) (rest : List Event),
    (s.events = .host (.read (regAddr s.params r) 4) :: rest →
      step s = .next { s with
        events := rest
        responses := s.responses ++ [.readData (regAddr s.params r) (regRead r s)] }) ∧
    (s.events = .host (.read (regAddr s.params r) 4) :: .host (.read (regAddr s.params r) 4) :: rest →
      Host.Core.run core 2 s = .next { s with
        events := rest
        responses := s.responses ++
          [.readData (regAddr s.params r) (regRead r s), .readData (regAddr s.params r) (regRead r s)] })

/-- R204: an access to the window with a size other than 4 bytes or an address whose bits [1:0] are not 0 changes no state of
the block; the host is told the address, the size and the direction, and a faulting write to CMD is not decoded. That the
HostAccessFault is a next state recorded in State.responses, and no stop, is the model's choice (log entry 8). -/
def Obligations.UnacceptedAccessesChangeNothing : Prop :=
  ∀ (s : State) (addr n : Nat) (v : Word) (rest : List Event),
    s.params.base ≤ addr → addr < s.params.base + 32 → (n ≠ 4 ∨ addr % 4 ≠ 0) →
    (s.events = .host (.read addr n) :: rest →
      step s = .next { s with events := rest, responses := s.responses ++ [.accessFault addr n .read] }) ∧
    (s.events = .host (.write addr n v) :: rest →
      step s = .next { s with events := rest, responses := s.responses ++ [.accessFault addr n .write] })

/-- R22, R66: a write to any register but CMD has no effect on any state and is no error. -/
def Obligations.ReadOnlyRegistersIgnoreWrites : Prop :=
  ∀ (s : State) (r : Reg) (v : Word) (rest : List Event), r ≠ .cmd →
    s.events = .host (.write (regAddr s.params r) 4 v) :: rest →
    step s = .next { s with events := rest, responses := s.responses ++ [.writeDone (regAddr s.params r)] }

/-- R61, and the model's choice to stop (log entry 9): an access outside [BASE, BASE + 0x1F] is not decoded. -/
def Obligations.AccessesOutsideTheWindowStop : Prop :=
  ∀ (s : State) (addr n : Nat) (v : Word) (rest : List Event),
    (addr < s.params.base ∨ s.params.base + 32 ≤ addr) →
    (s.events = .host (.read addr n) :: rest → step s = .fault (.outsideWindow addr n .read)) ∧
    (s.events = .host (.write addr n v) :: rest → step s = .fault (.outsideWindow addr n .write))

/-- R101: the sequencer's event is one sequencer step; in IDLE it has none. With no event listed the sequencer steps (the
model's choice, log entry 6). -/
def Obligations.SequencerEventIsOneSequencerStep : Prop :=
  ∀ s : State,
    (∀ rest, s.events = .sequencer :: rest → step s = .next (sequencerStep { s with events := rest })) ∧
    (s.events = [] → step s = .next (sequencerStep s)) ∧
    (s.seqState = .idle → sequencerStep s = s)

/-! ## What the registers read as -/

/-- R22, R61: the eight registers at their byte offsets from BASE, and the register that each of those addresses selects. -/
def Obligations.RegisterMap : Prop :=
  ∀ (p : Params) (r : Reg) (offset : Nat),
    (r, offset) ∈ [(Reg.cmd, 0x00), (.status, 0x04), (.config, 0x08), (.data, 0x0C), (.celsius, 0x10), (.fahrenheit, 0x14),
      (.crc, 0x18), (.param, 0x1C)] →
    regAddr p r = 32 * p.window + offset ∧ regAt (32 * p.window + offset) = r ∧
    inWindow p (32 * p.window + offset) = true

/-- R24, R26: where STATUS shows each field, BUSY as a function of STATE, and the reserved bits; and the number each name of
STATE, OUTCOME, BUSERR_CAUSE and REJ_REASON is shown as, by the code tables of R25, R27, R28 and R32 (ERR_STATE holds a STATE
code). -/
def Obligations.StatusLayout : Prop :=
  (∀ s : State,
    (regRead .status s).extractLsb' 0 4 = s.seqState.code ∧
    ((regRead .status s).getLsbD 4 = true ↔ s.seqState ≠ .idle) ∧
    (regRead .status s).extractLsb' 5 3 = 0#3 ∧
    (regRead .status s).extractLsb' 8 2 = s.outcome.code ∧
    (regRead .status s).extractLsb' 10 2 = s.busErrCause.code ∧
    (regRead .status s).getLsbD 12 = s.cmdRejected ∧
    (regRead .status s).getLsbD 13 = s.cfgDone ∧
    (regRead .status s).extractLsb' 14 2 = 0#2 ∧
    (regRead .status s).extractLsb' 16 4 = s.errState.code ∧
    (regRead .status s).extractLsb' 20 3 = rejCode s.rejReason ∧
    (regRead .status s).extractLsb' 23 9 = 0#9) ∧
  regRead .status State.reset = 0x00000000#32 ∧
  [SeqState.idle, .start, .txWaddr, .txReg, .rstart, .txRaddr, .rxLsb, .rxMsb, .rxPec, .stop, .validate, .convert].map
    SeqState.code = [0x0#4, 0x1#4, 0x2#4, 0x3#4, 0x4#4, 0x5#4, 0x6#4, 0x7#4, 0x8#4, 0x9#4, 0xA#4, 0xB#4] ∧
  [ReadOutcome.none, .ok, .busError, .integrityError].map ReadOutcome.code = [0#2, 1#2, 2#2, 3#2] ∧
  [BusErrCause.none, .nack, .arbLost, .timeout].map BusErrCause.code = [0#2, 1#2, 2#2, 3#2] ∧
  [RejReason.none, .busy, .reservedOpcode, .reservedField, .addrModeUnsupported, .notConfigured].map rejCode =
    [0#3, 1#3, 2#3, 3#3, 4#3, 5#3]

/-- R34: DATA shows the received bytes when OUTCOME is OK or INTEGRITY_ERROR, with the raw reading in its low half, and reads
0 in every other case. -/
def Obligations.DataIsGated : Prop :=
  ∀ s : State,
    (s.outcome = .ok ∨ s.outcome = .integrityError →
      (regRead .data s).extractLsb' 0 8 = s.lsbBuf ∧ (regRead .data s).extractLsb' 8 8 = s.msbBuf ∧
      (regRead .data s).extractLsb' 16 8 = s.pecBuf ∧ (regRead .data s).extractLsb' 24 8 = 0#8 ∧
      (regRead .data s).extractLsb' 0 16 = rawReading s.msbBuf s.lsbBuf) ∧
    (s.outcome = .none ∨ s.outcome = .busError → regRead .data s = 0x00000000#32)

/-- R35, R36: CELSIUS and FAHRENHEIT show their registers when OUTCOME is OK and otherwise 0x7FC00000; one gate for both. -/
def Obligations.TemperaturesAreGated : Prop :=
  ∀ s : State,
    (s.outcome = .ok → regRead .celsius s = s.celReg ∧ regRead .fahrenheit s = s.fahReg) ∧
    (s.outcome ≠ .ok → regRead .celsius s = 0x7FC00000#32 ∧ regRead .fahrenheit s = 0x7FC00000#32)

/-- R23, R33, R37, R38: what CMD, CONFIG, CRC and PARAM read as, reserved bits included; PARAM with the default
parameters reads 0x0007075A. -/
def Obligations.CmdConfigCrcParamLayout : Prop :=
  (∀ s : State,
    regRead .cmd s = 0x00000000#32 ∧
    (regRead .config s).extractLsb' 0 1 = s.addrMode ∧ (regRead .config s).extractLsb' 1 15 = 0#15 ∧
    (regRead .config s).extractLsb' 16 16 = s.clkSel ∧
    (regRead .crc s).extractLsb' 0 8 = s.crcAcc ∧ (regRead .crc s).extractLsb' 8 24 = 0#24 ∧
    (regRead .param s).extractLsb' 0 7 = s.params.devAddr ∧ (regRead .param s).getLsbD 7 = false ∧
    (regRead .param s).extractLsb' 8 8 = s.params.regSel ∧ (regRead .param s).extractLsb' 16 8 = 0x07#8 ∧
    (regRead .param s).extractLsb' 24 8 = 0#8) ∧
  regRead .param State.reset = 0x0007075A#32

/-- R63: byte lane j of a register holds its bits [8j+7:8j], so that the four lanes make the word, the first the least
significant. -/
def Obligations.LanesAreLittleEndian : Prop :=
  ∀ w : Word,
    (∀ j i, j < 4 → i < 8 → (byteLane w j).getLsbD i = w.getLsbD (8 * j + i)) ∧
    w.toNat = (byteLane w 0).toNat + 256 * (byteLane w 1).toNat + 65536 * (byteLane w 2).toNat +
      16777216 * (byteLane w 3).toNat

/-- R46: after reset every state element holds its reset value, and the registers read as R46 says, whatever the parameters. -/
def Obligations.ResetValues : Prop :=
  ∀ p : Params, let s := State.resetWith p
    s.seqState = .idle ∧ s.outcome = .none ∧ s.busErrCause = .none ∧ s.errState = .idle ∧ s.cmdRejected = false ∧
    s.rejReason = .none ∧ s.cfgDone = false ∧ s.addrMode = 0#1 ∧ s.clkSel = 0x0000#16 ∧ s.crcAcc = 0x00#8 ∧
    s.lsbBuf = 0x00#8 ∧ s.msbBuf = 0x00#8 ∧ s.pecBuf = 0x00#8 ∧ s.celReg = 0x00000000#32 ∧ s.fahReg = 0x00000000#32 ∧
    s.ownsBus = false ∧
    regRead .status s = 0x00000000#32 ∧ regRead .config s = 0x00000000#32 ∧ regRead .data s = 0x00000000#32 ∧
    regRead .celsius s = 0x7FC00000#32 ∧ regRead .fahrenheit s = 0x7FC00000#32 ∧ regRead .crc s = 0x00000000#32 ∧
    (regRead .param s).toNat = 65536 * 0x07 + 256 * p.regSel.toNat + p.devAddr.toNat

/-- R230, R231: a reset in any state sets every element of R46, releases the bus lines without a STOP if and only if STATE is
START to STOP, and leaves no outcome. That the history, the inputs and the host's record stay is the model's reading (log
entries 6 and 11). -/
def Obligations.ResetEvent : Prop :=
  ∀ (s : State) (rest : List Event), s.events = .reset :: rest →
    step s = .next { State.resetWith s.params with
      history := s.history ++ (if s.seqState.transacting then [.release] else [])
      events := rest
      answers := s.answers
      freeDraws := s.freeDraws
      responses := s.responses }

/-! ## The commands -/

/-- R182: NOP completes in every state, busy or not, and changes nothing. -/
def Obligations.NopCompletes : Prop := ∀ s : State, exec .nop s = .next s

/-- R181: CFG with a legal mode and a nonzero clock completes whenever no reading is in progress: CONFIG and CFG_DONE are
written, one BusConfigure is recorded, and nothing else changes. -/
def Obligations.CfgCompletes : Prop :=
  ∀ (s : State) (clk : BitVec 16), s.seqState = .idle → clk ≠ 0#16 →
    exec (.cfg 0#1 clk) s = .next { s with
      addrMode := 0#1
      clkSel := clk
      cfgDone := true
      history := s.history ++ [.configure 0#1 clk] }

/-- R86: the reserved operand values of CFG, when no reading is in progress: ADDR_MODE = 1 whatever the clock, then CLK_SEL = 0. -/
def Obligations.CfgRejectsReservedOperands : Prop :=
  ∀ s : State, s.seqState = .idle →
    (∀ clk, exec (.cfg 1#1 clk) s = .next { s with cmdRejected := true, rejReason := .addrModeUnsupported }) ∧
    exec (.cfg 0#1 0#16) s = .next { s with cmdRejected := true, rejReason := .reservedField }

/-- R100: READ completes whenever no reading is in progress and CFG_DONE = 1: the earlier reading is erased, STATE is START,
and no bus primitive is performed. -/
def Obligations.ReadCompletes : Prop :=
  ∀ s : State, s.seqState = .idle → s.cfgDone = true →
    exec .read s = .next { s with
      outcome := .none
      busErrCause := .none
      errState := .idle
      crcAcc := 0x00#8
      lsbBuf := 0x00#8
      msbBuf := 0x00#8
      pecBuf := 0x00#8
      celReg := 0x00000000#32
      fahReg := 0x00000000#32
      seqState := .start }

/-- R30, R186: READ before CFG is rejected as NOT_CONFIGURED. -/
def Obligations.ReadBeforeCfgIsRejected : Prop :=
  ∀ s : State, s.seqState = .idle → s.cfgDone = false →
    exec .read s = .next { s with cmdRejected := true, rejReason := .notConfigured }

/-- R144: CRC_INIT completes whenever no reading is in progress; CRC_ACC is 0x00 and nothing else changes. -/
def Obligations.CrcInitCompletes : Prop :=
  ∀ s : State, s.seqState = .idle → exec .crcInit s = .next { s with crcAcc := 0x00#8 }

/-- R145: CRC_BYTE completes whenever no reading is in progress; one byte is folded into CRC_ACC and nothing else changes. -/
def Obligations.CrcByteCompletes : Prop :=
  ∀ (s : State) (b : Byte), s.seqState = .idle →
    exec (.crcByte b) s = .next { s with crcAcc := crc8Step s.crcAcc b }

/-- R183: CLEAR completes whenever no reading is in progress; the five fields are cleared and nothing else changes. -/
def Obligations.ClearCompletes : Prop :=
  ∀ s : State, s.seqState = .idle →
    exec .clear s = .next { s with
      outcome := .none
      busErrCause := .none
      errState := .idle
      cmdRejected := false
      rejReason := .none }

/-- R73, R186, R187: while a reading is in progress every command but NOP is rejected as BUSY, with no other effect. -/
def Obligations.CommandsAreRejectedWhileBusy : Prop :=
  ∀ (s : State) (i : Instr), s.seqState ≠ .idle → i ≠ .nop →
    exec i s = .next { s with cmdRejected := true, rejReason := .busy }

/-- The frame of the commands (R181-R183, R100, R144, R145, R185): what each leaves unchanged in every state, accepted or
rejected. -/
def Obligations.CommandFrames : Prop :=
  ∀ (i : Instr) (s t : State), exec i s = .next t →
    (t.params = s.params ∧ t.events = s.events ∧ t.answers = s.answers ∧ t.freeDraws = s.freeDraws ∧
      t.responses = s.responses) ∧
    ((∀ m c, i ≠ .cfg m c) →
      t.cfgDone = s.cfgDone ∧ t.addrMode = s.addrMode ∧ t.clkSel = s.clkSel ∧ t.history = s.history) ∧
    (i ≠ .read →
      t.seqState = s.seqState ∧ t.lsbBuf = s.lsbBuf ∧ t.msbBuf = s.msbBuf ∧ t.pecBuf = s.pecBuf ∧
      t.celReg = s.celReg ∧ t.fahReg = s.fahReg) ∧
    (i ≠ .read → i ≠ .clear →
      t.outcome = s.outcome ∧ t.busErrCause = s.busErrCause ∧ t.errState = s.errState) ∧
    (i ≠ .read → i ≠ .crcInit → (∀ b, i ≠ .crcByte b) → t.crcAcc = s.crcAcc) ∧
    (i = .nop → t.cmdRejected = s.cmdRejected ∧ t.rejReason = s.rejReason)

/-- R66: CFG, CRC_INIT, CLEAR and NOP are idempotent: a second one leaves the state the first left. An accepted CFG (idle,
mode 0, clock nonzero) records one more BusConfigure (R181); a rejected one, and every other command, records nothing. -/
def Obligations.IdempotentCommands : Prop :=
  ∀ (i : Instr) (s t u : State), i ≠ .read → (∀ b, i ≠ .crcByte b) → exec i s = .next t → exec i t = .next u →
    u = { t with history := u.history } ∧
    ((∀ m c, i ≠ .cfg m c) → u.history = t.history) ∧
    (∀ m c, i = .cfg m c →
      (s.seqState = .idle ∧ m = 0#1 ∧ c ≠ 0#16 → u.history = t.history ++ [.configure m c]) ∧
      (¬(s.seqState = .idle ∧ m = 0#1 ∧ c ≠ 0#16) → u.history = t.history))

/-! ## Rules about the whole machine -/

/-- R119: no host access stops or disturbs a reading in progress, whatever its address, size and value; a reset stops it. -/
def Obligations.OnlyResetStopsAReading : Prop :=
  ∀ (s t : State), s.seqState ≠ .idle → step s = .next t →
    (∀ a, s.events.head? = some (.host a) →
      t.seqState = s.seqState ∧ t.outcome = s.outcome ∧ t.busErrCause = s.busErrCause ∧ t.errState = s.errState ∧
      t.crcAcc = s.crcAcc ∧ t.lsbBuf = s.lsbBuf ∧ t.msbBuf = s.msbBuf ∧ t.pecBuf = s.pecBuf ∧
      t.celReg = s.celReg ∧ t.fahReg = s.fahReg ∧ t.cfgDone = s.cfgDone ∧ t.addrMode = s.addrMode ∧
      t.clkSel = s.clkSel ∧ t.history = s.history ∧ t.answers = s.answers ∧ t.freeDraws = s.freeDraws ∧
      t.params = s.params) ∧
    (nextIsReset s → t.seqState = .idle ∧ t.outcome = .none)

/-- R232: reset is the only event that clears CFG_DONE, ADDR_MODE and CLK_SEL: reset clears them, and any other event leaves
CFG_DONE set, CLK_SEL nonzero, and ADDR_MODE as it was. The premise is the invariant StepsKeepConsistency states. -/
def Obligations.OnlyResetClearsTheConfiguration : Prop :=
  ∀ (s t : State), Consistent s → step s = .next t →
    (nextIsReset s → t.cfgDone = false ∧ t.addrMode = 0#1 ∧ t.clkSel = 0x0000#16) ∧
    (¬ nextIsReset s →
      (s.cfgDone = true → t.cfgDone = true) ∧ (s.clkSel ≠ 0#16 → t.clkSel ≠ 0#16) ∧ t.addrMode = s.addrMode)

/-- R29: a rejection sets CMD_REJECTED; only an accepted CLEAR or a reset clears it, no other command and no reading. -/
def Obligations.RejectionFlagIsSticky : Prop :=
  (∀ (w : Word) (s t : State) (reason : RejReason), rejectionOf w s = some reason → writeCommand w s = .next t →
    t.cmdRejected = true) ∧
  (∀ (s t : State), step s = .next t → s.cmdRejected = true →
    (t.cmdRejected = false ↔ nextIsReset s ∨ (s.seqState = .idle ∧ writesCommand s 0x00000005#32)))

/-- R27: OUTCOME changes only at a READ start, at the end of a reading, at CLEAR and at reset. -/
def Obligations.OutcomeWriters : Prop :=
  ∀ (s t : State), step s = .next t → t.outcome ≠ s.outcome →
    nextIsReset s ∨
    (s.seqState = .idle ∧ (writesCommand s 0x00000002#32 ∨ writesCommand s 0x00000005#32)) ∨
    (s.seqState ≠ .idle ∧ t.seqState = .idle ∧ nextIsSequencer s)

/-- R75: what DATA, CELSIUS and FAHRENHEIT read as changes only at a READ start, at the end of a reading, at CLEAR and at
reset. The premise is the invariant StepsKeepConsistency states. -/
def Obligations.ResultReadsChangeOnlyAtReadingBoundaries : Prop :=
  ∀ (s t : State), Consistent s → step s = .next t →
    (regRead .data t ≠ regRead .data s ∨ regRead .celsius t ≠ regRead .celsius s ∨
      regRead .fahrenheit t ≠ regRead .fahrenheit s) →
    nextIsReset s ∨
    (s.seqState = .idle ∧ (writesCommand s 0x00000002#32 ∨ writesCommand s 0x00000005#32)) ∨
    (s.seqState ≠ .idle ∧ t.seqState = .idle ∧ nextIsSequencer s)

/-- R6, R114: no step changes a parameter, and the bus history only grows at its end. -/
def Obligations.ParametersStayAndHistoryGrows : Prop :=
  ∀ (s t : State), step s = .next t → t.params = s.params ∧ s.history <+: t.history

/-- R42: of one reading nothing but CFG_DONE, ADDR_MODE, CLK_SEL, CMD_REJECTED and REJ_REASON reaches the next: two idle
blocks that agree on those (and on what lies outside the block's registers) are the same block once READ is accepted. -/
def Obligations.NothingElseSurvivesIntoAReading : Prop :=
  ∀ s₁ s₂ : State, s₁.seqState = .idle → s₂.seqState = .idle → s₁.cfgDone = true → s₂.cfgDone = true →
    s₁.addrMode = s₂.addrMode → s₁.clkSel = s₂.clkSel → s₁.cmdRejected = s₂.cmdRejected →
    s₁.rejReason = s₂.rejReason → s₁.history = s₂.history → s₁.params = s₂.params → s₁.events = s₂.events →
    s₁.answers = s₂.answers → s₁.freeDraws = s₂.freeDraws → s₁.responses = s₂.responses →
    ∃ t, exec .read s₁ = .next t ∧ exec .read s₂ = .next t ∧ t.seqState = .start

/-! ## The sequencer -/

/-- R104, R107, R112: START, RSTART and STOP, for every answer of the oracle. -/
def Obligations.FramingStates : Prop :=
  ∀ (s : State) (c next : SeqState) (ev : LineAnswer → BusEvent),
    (c, next, ev) ∈ [(SeqState.start, SeqState.txWaddr, BusEvent.start), (.rstart, .txRaddr, .restart),
      (.stop, .validate, .stop)] →
    s.seqState = c →
    (s.nextDraw.line = .ok →
      sequencerStep s = { s.drawn with history := s.history ++ [ev .ok], seqState := next }) ∧
    (s.nextDraw.line = .arbLost →
      sequencerStep s = { s.drawn with
        history := s.history ++ [ev .arbLost, .release]
        outcome := .busError, busErrCause := .arbLost, errState := c, seqState := .idle }) ∧
    (s.nextDraw.line = .timeout →
      sequencerStep s = { s.drawn with
        history := s.history ++ [ev .timeout, .release]
        outcome := .busError, busErrCause := .timeout, errState := c, seqState := .idle })

/-- R105, R106, R108: the three transmitted bytes, for every answer of the oracle: an acknowledged byte is folded into
CRC_ACC; after a NACK a STOP and the release follow, the STOP's answer not consulted. -/
def Obligations.TransmitStates : Prop :=
  ∀ (s : State) (c next : SeqState) (b : Byte),
    (c, next, b) ∈ [(SeqState.txWaddr, SeqState.txReg, s.params.devAddr.setWidth 8 <<< 1),
      (.txReg, .rstart, s.params.regSel), (.txRaddr, .rxLsb, s.params.devAddr.setWidth 8 <<< 1 ||| 1#8)] →
    s.seqState = c →
    (s.nextDraw.write = .ack →
      sequencerStep s = { s.drawn with
        history := s.history ++ [.write b .ack], crcAcc := crc8Step s.crcAcc b, seqState := next }) ∧
    (s.nextDraw.write = .nack →
      sequencerStep s = { s.drawn.drawn with
        history := s.history ++ [.write b .nack, .stop s.drawn.nextDraw.line, .release]
        outcome := .busError, busErrCause := .nack, errState := c, seqState := .idle }) ∧
    (s.nextDraw.write = .arbLost →
      sequencerStep s = { s.drawn with
        history := s.history ++ [.write b .arbLost, .release]
        outcome := .busError, busErrCause := .arbLost, errState := c, seqState := .idle }) ∧
    (s.nextDraw.write = .timeout →
      sequencerStep s = { s.drawn with
        history := s.history ++ [.write b .timeout, .release]
        outcome := .busError, busErrCause := .timeout, errState := c, seqState := .idle })

/-- R109, R110, R111: the three received bytes, for every answer of the oracle: the data bytes are acknowledged, kept and
folded; the check byte is not acknowledged, kept and not folded. -/
def Obligations.ReceiveStates : Prop :=
  ∀ s : State,
    (∀ v, s.nextDraw.read = .data v →
      (s.seqState = .rxLsb → sequencerStep s = { s.drawn with
        history := s.history ++ [.read .ack (.data v)]
        lsbBuf := v, crcAcc := crc8Step s.crcAcc v, seqState := .rxMsb }) ∧
      (s.seqState = .rxMsb → sequencerStep s = { s.drawn with
        history := s.history ++ [.read .ack (.data v)]
        msbBuf := v, crcAcc := crc8Step s.crcAcc v, seqState := .rxPec }) ∧
      (s.seqState = .rxPec → sequencerStep s = { s.drawn with
        history := s.history ++ [.read .nack (.data v)]
        pecBuf := v, seqState := .stop })) ∧
    (∀ (c : SeqState) (reply : AckBit) (a : ReadAnswer) (cause : BusErrCause),
      (c, reply) ∈ [(SeqState.rxLsb, AckBit.ack), (.rxMsb, .ack), (.rxPec, .nack)] →
      (a, cause) ∈ [(ReadAnswer.arbLost, BusErrCause.arbLost), (.timeout, .timeout)] →
      s.seqState = c → s.nextDraw.read = a →
      sequencerStep s = { s.drawn with
        history := s.history ++ [.read reply a, .release]
        outcome := .busError, busErrCause := cause, errState := c, seqState := .idle })

/-- R103: the oracle's answer is the one listed first, and the list moves on; where none is listed the answer is a free value
(the model's own form of the oracle, log entry 4). -/
def Obligations.OracleAnswers : Prop :=
  ∀ s : State,
    (∀ d ds, s.answers = d :: ds → s.nextDraw = d ∧ s.drawn = { s with answers := ds }) ∧
    (s.answers = [] → s.nextDraw = Config.freeDraw s.freeDraws ∧ s.drawn = { s with freeDraws := s.freeDraws + 1 })

/-- R146: VALIDATE moves on to CONVERT exactly when the computed and the received check byte are equal; a mismatch ends the
reading, with the temperatures unreadable and the received bytes shown. -/
def Obligations.ValidateStep : Prop :=
  ∀ s : State, s.seqState = .validate →
    (s.crcAcc = s.pecBuf → sequencerStep s = { s with seqState := .convert }) ∧
    (s.crcAcc ≠ s.pecBuf →
      sequencerStep s = { s with outcome := .integrityError, seqState := .idle } ∧
      regRead .celsius (sequencerStep s) = 0x7FC00000#32 ∧ regRead .fahrenheit (sequencerStep s) = 0x7FC00000#32 ∧
      (regRead .data (sequencerStep s)).toNat = 65536 * s.pecBuf.toNat + 256 * s.msbBuf.toNat + s.lsbBuf.toNat ∧
      (regRead .crc (sequencerStep s)).extractLsb' 0 8 = s.crcAcc)

/-- R162, R163: CONVERT writes both temperatures in one step, by four binary32 operations in the spec's order, each
rounded once, with the constants of R160. -/
def Obligations.ConvertStep : Prop :=
  ∀ s : State, s.seqState = .convert →
    let raw := 256 * s.msbBuf.toNat + s.lsbBuf.toNat
    let k := mul32 (f32 raw) 0x3CA3D70A#32
    let c := sub32 k 0x43889333#32
    let f := add32 (mul32 c 0x3FE66666#32) 0x42000000#32
    sequencerStep s = { s with celReg := c, fahReg := f, outcome := .ok, seqState := .idle }

/-- R118, R117: from START a reading is over after at most 11 sequencer steps, whatever the bus answers, and then has an
outcome. -/
def Obligations.EveryReadingEndsWithinElevenSteps : Prop :=
  ∀ s : State, s.seqState = .start →
    ∃ n, 1 ≤ n ∧ n ≤ 11 ∧ (sequencerRun n s).seqState = .idle ∧ (sequencerRun n s).outcome ≠ .none

/-- R91, R100-R114, R146, R162: a whole reading whose nine primitives succeed and whose check byte is the CRC of the PEC
input. From every idle, configured state the READ command and eleven sequencer steps leave exactly this: the nine wire
events, the three bytes, both temperatures, OUTCOME OK. That the sequencer steps while no event is listed is the model's
choice (log entry 6). -/
def Obligations.GoodReadingEndToEnd : Prop :=
  ∀ (s : State) (lo hi : Byte) (rest : List BusDraw), s.seqState = .idle → s.cfgDone = true →
    let pec := crc8 [waddr s.params, s.params.regSel, raddr s.params, lo, hi]
    s.events = [.host (.write s.params.base 4 0x00000002#32)] → s.answers = goodAnswers lo hi pec ++ rest →
    Host.Core.run core 12 s = .next { s with
      seqState := .idle
      outcome := .ok
      busErrCause := .none
      errState := .idle
      crcAcc := pec
      lsbBuf := lo
      msbBuf := hi
      pecBuf := pec
      celReg := celsiusOf (rawReading hi lo)
      fahReg := fahrenheitOf (rawReading hi lo)
      history := s.history ++ goodEvents s.params lo hi pec
      events := []
      answers := rest
      responses := s.responses ++ [.writeDone s.params.base] }

/-- R146, R202, R240: the same reading with any other check byte ends after ten sequencer steps as INTEGRITY_ERROR, with no
temperature and the received bytes kept. That the sequencer steps while no event is listed is the model's choice (log
entry 6). -/
def Obligations.CorruptedReadingEndToEnd : Prop :=
  ∀ (s : State) (lo hi bad : Byte) (rest : List BusDraw), s.seqState = .idle → s.cfgDone = true →
    bad ≠ crc8 [waddr s.params, s.params.regSel, raddr s.params, lo, hi] →
    s.events = [.host (.write s.params.base 4 0x00000002#32)] → s.answers = goodAnswers lo hi bad ++ rest →
    Host.Core.run core 11 s = .next { s with
      seqState := .idle
      outcome := .integrityError
      busErrCause := .none
      errState := .idle
      crcAcc := crc8 [waddr s.params, s.params.regSel, raddr s.params, lo, hi]
      lsbBuf := lo
      msbBuf := hi
      pecBuf := bad
      celReg := 0x00000000#32
      fahReg := 0x00000000#32
      history := s.history ++ goodEvents s.params lo hi bad
      events := []
      answers := rest
      responses := s.responses ++ [.writeDone s.params.base] }

/-! ## The invariant -/

/-- The invariant holds at reset, whatever the parameters. -/
def Obligations.ResetIsConsistent : Prop := ∀ p : Params, Consistent (State.resetWith p)

/-- R28, R31, R43, R143 and the others `Consistent` cites: every event, of whichever agent, keeps the invariant. -/
def Obligations.StepsKeepConsistency : Prop :=
  ∀ s t : State, Consistent s → step s = .next t → Consistent t

/-- R43: a value that CELSIUS or FAHRENHEIT returns other than 0x7FC00000 is the conversion of the bytes held, and those
passed the check over their own PEC input. -/
def Obligations.ShownTemperaturesAreVerified : Prop :=
  ∀ s : State, Consistent s →
    (regRead .celsius s ≠ 0x7FC00000#32 ∨ regRead .fahrenheit s ≠ 0x7FC00000#32) →
    s.outcome = .ok ∧
    s.pecBuf = crc8 [waddr s.params, s.params.regSel, raddr s.params, s.lsbBuf, s.msbBuf] ∧
    regRead .celsius s = celsiusOf (rawReading s.msbBuf s.lsbBuf) ∧
    regRead .fahrenheit s = fahrenheitOf (rawReading s.msbBuf s.lsbBuf)

/-! ## The CRC engine -/

/-- R147: a corrupted check byte is caught; one flipped bit in a data byte changes the CRC; and folding the CRC itself
leaves 0x00. -/
def Obligations.CrcErrorDetection : Prop :=
  (∀ (s : State) (k : Fin 8), s.seqState = .validate → s.pecBuf = s.crcAcc ^^^ (1#8 <<< k.val) →
    (sequencerStep s).outcome = .integrityError) ∧
  (∀ (p : Params) (lo hi : Byte) (k : Fin 8),
    crc8 (pecInput p (lo ^^^ (1#8 <<< k.val)) hi) ≠ crc8 (pecInput p lo hi) ∧
    crc8 (pecInput p lo (hi ^^^ (1#8 <<< k.val))) ≠ crc8 (pecInput p lo hi)) ∧
  (∀ seq : List Byte, crc8 (seq ++ [crc8 seq]) = 0x00#8)

open Polynomial in
/-- R140, R141: the loop computes a remainder. Reading a byte as the polynomial over GF(2) of its bits, crc8 of a message is
the remainder of the message times x^8 by the generator x^8 + x^2 + x + 1. -/
def Obligations.CrcIsTheRemainderByTheGenerator : Prop :=
  ∀ seq : List Byte,
    let ofByte : Byte → (ZMod 2)[X] := fun b => ∑ i : Fin 8, if b.getLsbD i.val then X ^ i.val else 0
    (seq.foldl (fun m b => m * X ^ 8 + ofByte b) 0 * X ^ 8) %ₘ (X ^ 8 + X ^ 2 + X + 1) = ofByte (crc8 seq)

/-! ## The scaler -/

/-- R13: f32 is exact for every integer below 2^24. -/
def Obligations.IntegersConvertExactly : Prop :=
  ∀ n : Nat, n < 16777216 → isSpecial (f32 n) = false ∧ scaledValue (f32 n) = (n : Int) * 2 ^ 149

/-- R13: multiply, add and subtract of finite operands round once to nearest, ties to even. The result is finite exactly
when the exact result's magnitude lies below (2^25 - 1) * 2^103, half a unit above the largest finite number, and is otherwise
the infinity of its sign. A finite result is nearest: of all finite numbers none is nearer to the exact result, and where
another is as near the one given is even. Values are taken times 2^149 (R13's integers made of binary32 numbers), exact
results times 2^298. IEEE 754 is the meaning the spec gives the operations (log entry 14). -/
def Obligations.OperationsRoundToNearestEven : Prop :=
  ∀ a b : Binary32, isSpecial a = false → isSpecial b = false →
    ∀ (r : Binary32) (exact : Int),
      (r, exact) ∈ [(mul32 a b, scaledValue a * scaledValue b), (add32 a b, (scaledValue a + scaledValue b) * 2 ^ 149),
        (sub32 a b, (scaledValue a - scaledValue b) * 2 ^ 149)] →
      (isSpecial r = false ↔ |exact| < (2 ^ 25 - 1) * 2 ^ 401) ∧
      (isSpecial r = true → r = if exact < 0 then 0xFF800000#32 else 0x7F800000#32) ∧
      (isSpecial r = false →
        ∀ c : Binary32, isSpecial c = false →
          |scaledValue r * 2 ^ 149 - exact| ≤ |scaledValue c * 2 ^ 149 - exact| ∧
          (|scaledValue r * 2 ^ 149 - exact| = |scaledValue c * 2 ^ 149 - exact| → scaledValue c ≠ scaledValue r →
            fracField r % 2 = 0))

/-- R166: for every raw value kelvin (but +0.0 at raw 0), Celsius, the product t and Fahrenheit are finite normal numbers, in
the ranges given, with the least magnitudes given and the raw values that attain them. -/
def Obligations.ConversionHasNoExceptionalValues : Prop :=
  ∀ raw : BitVec 16,
    let k := kelvinOf raw
    let c := celsiusOf raw
    let f := fahrenheitOf raw
    (raw ≠ 0#16 → isNormal k = true) ∧ (raw = 0#16 → k = 0x00000000#32) ∧
    isNormal c = true ∧ isNormal (mul32 c 0x3FE66666#32) = true ∧ isNormal f = true ∧
    (0 ≤ scaledValue k ∧ scaledValue k ≤ scaledValue 0x44A3D666#32) ∧
    (scaledValue 0xC3889333#32 ≤ scaledValue c ∧ scaledValue c ≤ scaledValue 0x4481B199#32) ∧
    (scaledValue 0xC3E5D5C2#32 ≤ scaledValue f ∧ scaledValue f ≤ scaledValue 0x44ED72E0#32) ∧
    scaledValue 0x3C240000#32 ≤ |scaledValue c| ∧ scaledValue 0x3C654000#32 ≤ |scaledValue f| ∧
    (|scaledValue c| = scaledValue 0x3C240000#32 ↔ raw = 13657#16 ∨ raw = 13658#16) ∧
    (|scaledValue f| = scaledValue 0x3C654000#32 ↔ raw = 12769#16)

/-- R167, its two bounds: Celsius within 0.00012 and Fahrenheit within 0.0003 of the exact formulas, for every raw value.
Times 2^149, Celsius exactly is (2 raw - 27315) / 100 and Fahrenheit (36 raw - 459670) / 1000. -/
def Obligations.ConversionIsAccurate : Prop :=
  ∀ raw : BitVec 16,
    |scaledValue (celsiusOf raw) * 100 - (2 * (raw.toNat : Int) - 27315) * 2 ^ 149| * 1000 ≤ 12 * 2 ^ 149 ∧
    |scaledValue (fahrenheitOf raw) * 1000 - (36 * (raw.toNat : Int) - 459670) * 2 ^ 149| * 10 ≤ 3 * 2 ^ 149

/-- R168: kelvin, Celsius and Fahrenheit are each strictly increasing in the raw reading. -/
def Obligations.ConversionIsStrictlyIncreasing : Prop :=
  ∀ a b : BitVec 16, a.toNat < b.toNat →
    scaledValue (kelvinOf a) < scaledValue (kelvinOf b) ∧
    scaledValue (celsiusOf a) < scaledValue (celsiusOf b) ∧
    scaledValue (fahrenheitOf a) < scaledValue (fahrenheitOf b)
end

