-- ==== Sys2Proof/Laws/Crc.lean ====
section
/-! SUPPORT. The basic laws of the CRC engine (42_validator.md R140, R141). -/

namespace Sys2Proof.Machine

@[simp] theorem crc8_nil : crc8 [] = crcInitVal := rfl

/-- R141: crc8(s ++ [b]) = crc8_step(crc8(s), b). -/
@[simp] theorem crc8_append_byte (seq : List Byte) (b : Byte) : crc8 (seq ++ [b]) = crc8Step (crc8 seq) b := by
  simp [crc8]

theorem crcRound_zero : crcRound 0#8 = 0#8 := by decide

theorem crcRounds_zero (n : Nat) : crcRounds n 0#8 = 0#8 := by
  induction n with
  | zero => rfl
  | succ n ih => rw [crcRounds, crcRound_zero, ih]

/-- R145: folding a byte equal to the accumulator gives 0x00. -/
theorem crc8Step_self (b : Byte) : crc8Step b b = 0#8 := by
  rw [crc8Step, BitVec.xor_self, crcRounds_zero]

/-- A round is linear over exclusive-or. -/
theorem crcRound_xor (a b : Byte) : crcRound (a ^^^ b) = crcRound a ^^^ crcRound b := by
  apply BitVec.eq_of_getLsbD_eq
  intro k hk
  cases ha : a.msb <;> cases hb : b.msb <;>
    (unfold crcRound
     simp only [BitVec.msb_xor, ha, hb]
     interval_cases k <;> simp [poly])

end Sys2Proof.Machine
end

