-- ==== Sys2Proof/Laws/State.lean ====
section
/-! SUPPORT. What each update of the state leaves in each field: one lemma per field per update, for simp. -/

namespace Sys2Proof.Machine

/-! ## State.popEvent: taking the next event (R70) -/

@[simp] theorem State.popEvent_seqState (s : State) : s.popEvent.seqState = s.seqState := rfl
@[simp] theorem State.popEvent_outcome (s : State) : s.popEvent.outcome = s.outcome := rfl
@[simp] theorem State.popEvent_busErrCause (s : State) : s.popEvent.busErrCause = s.busErrCause := rfl
@[simp] theorem State.popEvent_errState (s : State) : s.popEvent.errState = s.errState := rfl
@[simp] theorem State.popEvent_cmdRejected (s : State) : s.popEvent.cmdRejected = s.cmdRejected := rfl
@[simp] theorem State.popEvent_rejReason (s : State) : s.popEvent.rejReason = s.rejReason := rfl
@[simp] theorem State.popEvent_cfgDone (s : State) : s.popEvent.cfgDone = s.cfgDone := rfl
@[simp] theorem State.popEvent_addrMode (s : State) : s.popEvent.addrMode = s.addrMode := rfl
@[simp] theorem State.popEvent_clkSel (s : State) : s.popEvent.clkSel = s.clkSel := rfl
@[simp] theorem State.popEvent_crcAcc (s : State) : s.popEvent.crcAcc = s.crcAcc := rfl
@[simp] theorem State.popEvent_lsbBuf (s : State) : s.popEvent.lsbBuf = s.lsbBuf := rfl
@[simp] theorem State.popEvent_msbBuf (s : State) : s.popEvent.msbBuf = s.msbBuf := rfl
@[simp] theorem State.popEvent_pecBuf (s : State) : s.popEvent.pecBuf = s.pecBuf := rfl
@[simp] theorem State.popEvent_celReg (s : State) : s.popEvent.celReg = s.celReg := rfl
@[simp] theorem State.popEvent_fahReg (s : State) : s.popEvent.fahReg = s.fahReg := rfl
@[simp] theorem State.popEvent_history (s : State) : s.popEvent.history = s.history := rfl
@[simp] theorem State.popEvent_params (s : State) : s.popEvent.params = s.params := rfl
@[simp] theorem State.popEvent_events (s : State) : s.popEvent.events = s.events.tail := rfl
@[simp] theorem State.popEvent_answers (s : State) : s.popEvent.answers = s.answers := rfl
@[simp] theorem State.popEvent_freeDraws (s : State) : s.popEvent.freeDraws = s.freeDraws := rfl
@[simp] theorem State.popEvent_responses (s : State) : s.popEvent.responses = s.responses := rfl

/-! ## State.respond: a response to the host (R62) -/

@[simp] theorem State.respond_seqState (r : HostResponse) (s : State) : (s.respond r).seqState = s.seqState := rfl
@[simp] theorem State.respond_outcome (r : HostResponse) (s : State) : (s.respond r).outcome = s.outcome := rfl
@[simp] theorem State.respond_busErrCause (r : HostResponse) (s : State) : (s.respond r).busErrCause = s.busErrCause := rfl
@[simp] theorem State.respond_errState (r : HostResponse) (s : State) : (s.respond r).errState = s.errState := rfl
@[simp] theorem State.respond_cmdRejected (r : HostResponse) (s : State) : (s.respond r).cmdRejected = s.cmdRejected := rfl
@[simp] theorem State.respond_rejReason (r : HostResponse) (s : State) : (s.respond r).rejReason = s.rejReason := rfl
@[simp] theorem State.respond_cfgDone (r : HostResponse) (s : State) : (s.respond r).cfgDone = s.cfgDone := rfl
@[simp] theorem State.respond_addrMode (r : HostResponse) (s : State) : (s.respond r).addrMode = s.addrMode := rfl
@[simp] theorem State.respond_clkSel (r : HostResponse) (s : State) : (s.respond r).clkSel = s.clkSel := rfl
@[simp] theorem State.respond_crcAcc (r : HostResponse) (s : State) : (s.respond r).crcAcc = s.crcAcc := rfl
@[simp] theorem State.respond_lsbBuf (r : HostResponse) (s : State) : (s.respond r).lsbBuf = s.lsbBuf := rfl
@[simp] theorem State.respond_msbBuf (r : HostResponse) (s : State) : (s.respond r).msbBuf = s.msbBuf := rfl
@[simp] theorem State.respond_pecBuf (r : HostResponse) (s : State) : (s.respond r).pecBuf = s.pecBuf := rfl
@[simp] theorem State.respond_celReg (r : HostResponse) (s : State) : (s.respond r).celReg = s.celReg := rfl
@[simp] theorem State.respond_fahReg (r : HostResponse) (s : State) : (s.respond r).fahReg = s.fahReg := rfl
@[simp] theorem State.respond_history (r : HostResponse) (s : State) : (s.respond r).history = s.history := rfl
@[simp] theorem State.respond_params (r : HostResponse) (s : State) : (s.respond r).params = s.params := rfl
@[simp] theorem State.respond_events (r : HostResponse) (s : State) : (s.respond r).events = s.events := rfl
@[simp] theorem State.respond_answers (r : HostResponse) (s : State) : (s.respond r).answers = s.answers := rfl
@[simp] theorem State.respond_freeDraws (r : HostResponse) (s : State) : (s.respond r).freeDraws = s.freeDraws := rfl
@[simp] theorem State.respond_responses (r : HostResponse) (s : State) : (s.respond r).responses = s.responses ++ [r] := rfl

/-! ## State.record: one more event on the bus history (R114) -/

@[simp] theorem State.record_seqState (e : BusEvent) (s : State) : (s.record e).seqState = s.seqState := rfl
@[simp] theorem State.record_outcome (e : BusEvent) (s : State) : (s.record e).outcome = s.outcome := rfl
@[simp] theorem State.record_busErrCause (e : BusEvent) (s : State) : (s.record e).busErrCause = s.busErrCause := rfl
@[simp] theorem State.record_errState (e : BusEvent) (s : State) : (s.record e).errState = s.errState := rfl
@[simp] theorem State.record_cmdRejected (e : BusEvent) (s : State) : (s.record e).cmdRejected = s.cmdRejected := rfl
@[simp] theorem State.record_rejReason (e : BusEvent) (s : State) : (s.record e).rejReason = s.rejReason := rfl
@[simp] theorem State.record_cfgDone (e : BusEvent) (s : State) : (s.record e).cfgDone = s.cfgDone := rfl
@[simp] theorem State.record_addrMode (e : BusEvent) (s : State) : (s.record e).addrMode = s.addrMode := rfl
@[simp] theorem State.record_clkSel (e : BusEvent) (s : State) : (s.record e).clkSel = s.clkSel := rfl
@[simp] theorem State.record_crcAcc (e : BusEvent) (s : State) : (s.record e).crcAcc = s.crcAcc := rfl
@[simp] theorem State.record_lsbBuf (e : BusEvent) (s : State) : (s.record e).lsbBuf = s.lsbBuf := rfl
@[simp] theorem State.record_msbBuf (e : BusEvent) (s : State) : (s.record e).msbBuf = s.msbBuf := rfl
@[simp] theorem State.record_pecBuf (e : BusEvent) (s : State) : (s.record e).pecBuf = s.pecBuf := rfl
@[simp] theorem State.record_celReg (e : BusEvent) (s : State) : (s.record e).celReg = s.celReg := rfl
@[simp] theorem State.record_fahReg (e : BusEvent) (s : State) : (s.record e).fahReg = s.fahReg := rfl
@[simp] theorem State.record_history (e : BusEvent) (s : State) : (s.record e).history = s.history ++ [e] := rfl
@[simp] theorem State.record_params (e : BusEvent) (s : State) : (s.record e).params = s.params := rfl
@[simp] theorem State.record_events (e : BusEvent) (s : State) : (s.record e).events = s.events := rfl
@[simp] theorem State.record_answers (e : BusEvent) (s : State) : (s.record e).answers = s.answers := rfl
@[simp] theorem State.record_freeDraws (e : BusEvent) (s : State) : (s.record e).freeDraws = s.freeDraws := rfl
@[simp] theorem State.record_responses (e : BusEvent) (s : State) : (s.record e).responses = s.responses := rfl

/-! ## State.drawn: taking one draw from the oracle (R103) -/

@[simp] theorem State.drawn_seqState (s : State) : s.drawn.seqState = s.seqState := by unfold State.drawn; split <;> rfl
@[simp] theorem State.drawn_outcome (s : State) : s.drawn.outcome = s.outcome := by unfold State.drawn; split <;> rfl
@[simp] theorem State.drawn_busErrCause (s : State) : s.drawn.busErrCause = s.busErrCause := by unfold State.drawn; split <;> rfl
@[simp] theorem State.drawn_errState (s : State) : s.drawn.errState = s.errState := by unfold State.drawn; split <;> rfl
@[simp] theorem State.drawn_cmdRejected (s : State) : s.drawn.cmdRejected = s.cmdRejected := by unfold State.drawn; split <;> rfl
@[simp] theorem State.drawn_rejReason (s : State) : s.drawn.rejReason = s.rejReason := by unfold State.drawn; split <;> rfl
@[simp] theorem State.drawn_cfgDone (s : State) : s.drawn.cfgDone = s.cfgDone := by unfold State.drawn; split <;> rfl
@[simp] theorem State.drawn_addrMode (s : State) : s.drawn.addrMode = s.addrMode := by unfold State.drawn; split <;> rfl
@[simp] theorem State.drawn_clkSel (s : State) : s.drawn.clkSel = s.clkSel := by unfold State.drawn; split <;> rfl
@[simp] theorem State.drawn_crcAcc (s : State) : s.drawn.crcAcc = s.crcAcc := by unfold State.drawn; split <;> rfl
@[simp] theorem State.drawn_lsbBuf (s : State) : s.drawn.lsbBuf = s.lsbBuf := by unfold State.drawn; split <;> rfl
@[simp] theorem State.drawn_msbBuf (s : State) : s.drawn.msbBuf = s.msbBuf := by unfold State.drawn; split <;> rfl
@[simp] theorem State.drawn_pecBuf (s : State) : s.drawn.pecBuf = s.pecBuf := by unfold State.drawn; split <;> rfl
@[simp] theorem State.drawn_celReg (s : State) : s.drawn.celReg = s.celReg := by unfold State.drawn; split <;> rfl
@[simp] theorem State.drawn_fahReg (s : State) : s.drawn.fahReg = s.fahReg := by unfold State.drawn; split <;> rfl
@[simp] theorem State.drawn_history (s : State) : s.drawn.history = s.history := by unfold State.drawn; split <;> rfl
@[simp] theorem State.drawn_params (s : State) : s.drawn.params = s.params := by unfold State.drawn; split <;> rfl
@[simp] theorem State.drawn_events (s : State) : s.drawn.events = s.events := by unfold State.drawn; split <;> rfl
@[simp] theorem State.drawn_answers (s : State) : s.drawn.answers = s.answers.tail := by unfold State.drawn; split <;> simp [*]
@[simp] theorem State.drawn_responses (s : State) : s.drawn.responses = s.responses := by unfold State.drawn; split <;> rfl

/-! ## reject: a rejection (R185) -/

@[simp] theorem reject_seqState (r : RejReason) (s : State) : (reject r s).seqState = s.seqState := rfl
@[simp] theorem reject_outcome (r : RejReason) (s : State) : (reject r s).outcome = s.outcome := rfl
@[simp] theorem reject_busErrCause (r : RejReason) (s : State) : (reject r s).busErrCause = s.busErrCause := rfl
@[simp] theorem reject_errState (r : RejReason) (s : State) : (reject r s).errState = s.errState := rfl
@[simp] theorem reject_cmdRejected (r : RejReason) (s : State) : (reject r s).cmdRejected = true := rfl
@[simp] theorem reject_rejReason (r : RejReason) (s : State) : (reject r s).rejReason = r := rfl
@[simp] theorem reject_cfgDone (r : RejReason) (s : State) : (reject r s).cfgDone = s.cfgDone := rfl
@[simp] theorem reject_addrMode (r : RejReason) (s : State) : (reject r s).addrMode = s.addrMode := rfl
@[simp] theorem reject_clkSel (r : RejReason) (s : State) : (reject r s).clkSel = s.clkSel := rfl
@[simp] theorem reject_crcAcc (r : RejReason) (s : State) : (reject r s).crcAcc = s.crcAcc := rfl
@[simp] theorem reject_lsbBuf (r : RejReason) (s : State) : (reject r s).lsbBuf = s.lsbBuf := rfl
@[simp] theorem reject_msbBuf (r : RejReason) (s : State) : (reject r s).msbBuf = s.msbBuf := rfl
@[simp] theorem reject_pecBuf (r : RejReason) (s : State) : (reject r s).pecBuf = s.pecBuf := rfl
@[simp] theorem reject_celReg (r : RejReason) (s : State) : (reject r s).celReg = s.celReg := rfl
@[simp] theorem reject_fahReg (r : RejReason) (s : State) : (reject r s).fahReg = s.fahReg := rfl
@[simp] theorem reject_history (r : RejReason) (s : State) : (reject r s).history = s.history := rfl
@[simp] theorem reject_params (r : RejReason) (s : State) : (reject r s).params = s.params := rfl
@[simp] theorem reject_events (r : RejReason) (s : State) : (reject r s).events = s.events := rfl
@[simp] theorem reject_answers (r : RejReason) (s : State) : (reject r s).answers = s.answers := rfl
@[simp] theorem reject_freeDraws (r : RejReason) (s : State) : (reject r s).freeDraws = s.freeDraws := rfl
@[simp] theorem reject_responses (r : RejReason) (s : State) : (reject r s).responses = s.responses := rfl

/-! ## goTo: a move of STATE -/

@[simp] theorem goTo_seqState (c : SeqState) (s : State) : (goTo c s).seqState = c := rfl
@[simp] theorem goTo_outcome (c : SeqState) (s : State) : (goTo c s).outcome = s.outcome := rfl
@[simp] theorem goTo_busErrCause (c : SeqState) (s : State) : (goTo c s).busErrCause = s.busErrCause := rfl
@[simp] theorem goTo_errState (c : SeqState) (s : State) : (goTo c s).errState = s.errState := rfl
@[simp] theorem goTo_cmdRejected (c : SeqState) (s : State) : (goTo c s).cmdRejected = s.cmdRejected := rfl
@[simp] theorem goTo_rejReason (c : SeqState) (s : State) : (goTo c s).rejReason = s.rejReason := rfl
@[simp] theorem goTo_cfgDone (c : SeqState) (s : State) : (goTo c s).cfgDone = s.cfgDone := rfl
@[simp] theorem goTo_addrMode (c : SeqState) (s : State) : (goTo c s).addrMode = s.addrMode := rfl
@[simp] theorem goTo_clkSel (c : SeqState) (s : State) : (goTo c s).clkSel = s.clkSel := rfl
@[simp] theorem goTo_crcAcc (c : SeqState) (s : State) : (goTo c s).crcAcc = s.crcAcc := rfl
@[simp] theorem goTo_lsbBuf (c : SeqState) (s : State) : (goTo c s).lsbBuf = s.lsbBuf := rfl
@[simp] theorem goTo_msbBuf (c : SeqState) (s : State) : (goTo c s).msbBuf = s.msbBuf := rfl
@[simp] theorem goTo_pecBuf (c : SeqState) (s : State) : (goTo c s).pecBuf = s.pecBuf := rfl
@[simp] theorem goTo_celReg (c : SeqState) (s : State) : (goTo c s).celReg = s.celReg := rfl
@[simp] theorem goTo_fahReg (c : SeqState) (s : State) : (goTo c s).fahReg = s.fahReg := rfl
@[simp] theorem goTo_history (c : SeqState) (s : State) : (goTo c s).history = s.history := rfl
@[simp] theorem goTo_params (c : SeqState) (s : State) : (goTo c s).params = s.params := rfl
@[simp] theorem goTo_events (c : SeqState) (s : State) : (goTo c s).events = s.events := rfl
@[simp] theorem goTo_answers (c : SeqState) (s : State) : (goTo c s).answers = s.answers := rfl
@[simp] theorem goTo_freeDraws (c : SeqState) (s : State) : (goTo c s).freeDraws = s.freeDraws := rfl
@[simp] theorem goTo_responses (c : SeqState) (s : State) : (goTo c s).responses = s.responses := rfl

/-! ## foldByte: a fold into CRC_ACC (R143) -/

@[simp] theorem foldByte_seqState (b : Byte) (s : State) : (foldByte b s).seqState = s.seqState := rfl
@[simp] theorem foldByte_outcome (b : Byte) (s : State) : (foldByte b s).outcome = s.outcome := rfl
@[simp] theorem foldByte_busErrCause (b : Byte) (s : State) : (foldByte b s).busErrCause = s.busErrCause := rfl
@[simp] theorem foldByte_errState (b : Byte) (s : State) : (foldByte b s).errState = s.errState := rfl
@[simp] theorem foldByte_cmdRejected (b : Byte) (s : State) : (foldByte b s).cmdRejected = s.cmdRejected := rfl
@[simp] theorem foldByte_rejReason (b : Byte) (s : State) : (foldByte b s).rejReason = s.rejReason := rfl
@[simp] theorem foldByte_cfgDone (b : Byte) (s : State) : (foldByte b s).cfgDone = s.cfgDone := rfl
@[simp] theorem foldByte_addrMode (b : Byte) (s : State) : (foldByte b s).addrMode = s.addrMode := rfl
@[simp] theorem foldByte_clkSel (b : Byte) (s : State) : (foldByte b s).clkSel = s.clkSel := rfl
@[simp] theorem foldByte_crcAcc (b : Byte) (s : State) : (foldByte b s).crcAcc = crc8Step s.crcAcc b := rfl
@[simp] theorem foldByte_lsbBuf (b : Byte) (s : State) : (foldByte b s).lsbBuf = s.lsbBuf := rfl
@[simp] theorem foldByte_msbBuf (b : Byte) (s : State) : (foldByte b s).msbBuf = s.msbBuf := rfl
@[simp] theorem foldByte_pecBuf (b : Byte) (s : State) : (foldByte b s).pecBuf = s.pecBuf := rfl
@[simp] theorem foldByte_celReg (b : Byte) (s : State) : (foldByte b s).celReg = s.celReg := rfl
@[simp] theorem foldByte_fahReg (b : Byte) (s : State) : (foldByte b s).fahReg = s.fahReg := rfl
@[simp] theorem foldByte_history (b : Byte) (s : State) : (foldByte b s).history = s.history := rfl
@[simp] theorem foldByte_params (b : Byte) (s : State) : (foldByte b s).params = s.params := rfl
@[simp] theorem foldByte_events (b : Byte) (s : State) : (foldByte b s).events = s.events := rfl
@[simp] theorem foldByte_answers (b : Byte) (s : State) : (foldByte b s).answers = s.answers := rfl
@[simp] theorem foldByte_freeDraws (b : Byte) (s : State) : (foldByte b s).freeDraws = s.freeDraws := rfl
@[simp] theorem foldByte_responses (b : Byte) (s : State) : (foldByte b s).responses = s.responses := rfl

end Sys2Proof.Machine
end

