-- ==== Sys2Proof/Laws/Ops.lean ====
section
/-! SUPPORT. For each shared operation, once, everything it can do: the lemmas to cite instead of unfolding. -/

namespace Sys2Proof.Machine

/-! ## BUSY -/

@[simp] theorem busy_eq_true_iff (s : State) : s.busy = true ↔ s.seqState ≠ .idle := by simp [State.busy]

@[simp] theorem busy_eq_false_iff (s : State) : s.busy = false ↔ s.seqState = .idle := by simp [State.busy]

theorem ownsBus_eq_transacting (s : State) : s.ownsBus = s.seqState.transacting := by
  cases h : s.seqState <;> simp [State.ownsBus, SeqState.transacting, h]

/-! ## The oracle -/

theorem nextDraw_cons {s : State} {d : BusDraw} {ds : List BusDraw} (h : s.answers = d :: ds) : s.nextDraw = d := by
  simp [State.nextDraw, h]

theorem nextDraw_nil {s : State} (h : s.answers = []) : s.nextDraw = Config.freeDraw s.freeDraws := by
  simp [State.nextDraw, h]

theorem drawn_cons {s : State} {d : BusDraw} {ds : List BusDraw} (h : s.answers = d :: ds) :
    s.drawn = { s with answers := ds } := by
  simp [State.drawn, h]

theorem drawn_nil {s : State} (h : s.answers = []) : s.drawn = { s with freeDraws := s.freeDraws + 1 } := by
  simp [State.drawn, h]

@[simp] theorem record_nextDraw (e : BusEvent) (s : State) : (s.record e).nextDraw = s.nextDraw := rfl

@[simp] theorem record_drawn (e : BusEvent) (s : State) : (s.record e).drawn = s.drawn.record e := by
  cases h : s.answers <;> simp [State.drawn, State.record, h]

/-! ## Ending a reading -/

theorem failBus_nack (c : SeqState) (s : State) :
    failBus c .nack s = { s.drawn with
      history := s.history ++ [.stop s.nextDraw.line, .release]
      outcome := .busError, busErrCause := .nack, errState := c, seqState := .idle } := by
  simp [failBus, giveUpBus, busRelease, busStop, State.record, failureCause]

theorem failBus_arbLost (c : SeqState) (s : State) :
    failBus c .arbLost s = { s with
      history := s.history ++ [.release]
      outcome := .busError, busErrCause := .arbLost, errState := c, seqState := .idle } := rfl

theorem failBus_timeout (c : SeqState) (s : State) :
    failBus c .timeout s = { s with
      history := s.history ++ [.release]
      outcome := .busError, busErrCause := .timeout, errState := c, seqState := .idle } := rfl

/-- What every BusError leaves, whatever its cause (R116). -/
theorem failBus_spec (c : SeqState) (a : BusFailure) (s : State) :
    (failBus c a s).seqState = .idle ∧ (failBus c a s).outcome = .busError ∧
    (failBus c a s).busErrCause = failureCause a ∧ (failBus c a s).errState = c ∧
    (failBus c a s).crcAcc = s.crcAcc ∧ (failBus c a s).lsbBuf = s.lsbBuf ∧ (failBus c a s).msbBuf = s.msbBuf ∧
    (failBus c a s).pecBuf = s.pecBuf ∧ (failBus c a s).celReg = s.celReg ∧ (failBus c a s).fahReg = s.fahReg := by
  cases a <;> simp [failBus, giveUpBus, busRelease, busStop]

/-! ## A sequencer step -/

/-- The fields of the state that are not the sequencer's to change. -/
structure SameOutside (s t : State) : Prop where
  params : t.params = s.params
  events : t.events = s.events
  responses : t.responses = s.responses
  cmdRejected : t.cmdRejected = s.cmdRejected
  rejReason : t.rejReason = s.rejReason
  cfgDone : t.cfgDone = s.cfgDone
  addrMode : t.addrMode = s.addrMode
  clkSel : t.clkSel = s.clkSel

theorem SameOutside.rfl' (s : State) : SameOutside s s := ⟨rfl, rfl, rfl, rfl, rfl, rfl, rfl, rfl⟩

theorem failBus_sameOutside (c : SeqState) (a : BusFailure) (s : State) : SameOutside s (failBus c a s) := by
  cases a <;> constructor <;> simp [failBus, giveUpBus, busRelease, busStop]

theorem SameOutside.trans {s t u : State} (h : SameOutside s t) (g : SameOutside t u) : SameOutside s u :=
  ⟨g.params.trans h.params, g.events.trans h.events, g.responses.trans h.responses,
    g.cmdRejected.trans h.cmdRejected, g.rejReason.trans h.rejReason, g.cfgDone.trans h.cfgDone,
    g.addrMode.trans h.addrMode, g.clkSel.trans h.clkSel⟩

theorem record_drawn_sameOutside (e : BusEvent) (s : State) : SameOutside s (s.drawn.record e) := by
  constructor <;> simp

theorem afterLine_sameOutside (c next : SeqState) (x : LineAnswer × State) :
    SameOutside x.2 (afterLine c next x) := by
  obtain ⟨a, s⟩ := x
  cases a
  · exact ⟨rfl, rfl, rfl, rfl, rfl, rfl, rfl, rfl⟩
  · exact failBus_sameOutside c .arbLost s
  · exact failBus_sameOutside c .timeout s

theorem afterWrite_sameOutside (c next : SeqState) (b : Byte) (x : WriteAnswer × State) :
    SameOutside x.2 (afterWrite c next b x) := by
  obtain ⟨a, s⟩ := x
  cases a
  · exact ⟨rfl, rfl, rfl, rfl, rfl, rfl, rfl, rfl⟩
  · exact failBus_sameOutside c .nack s
  · exact failBus_sameOutside c .arbLost s
  · exact failBus_sameOutside c .timeout s

theorem afterRead_sameOutside (c : SeqState) (keep : Byte → State → State) (hk : ∀ v s, SameOutside s (keep v s))
    (x : ReadAnswer × State) : SameOutside x.2 (afterRead c keep x) := by
  obtain ⟨a, s⟩ := x
  cases a
  · exact hk _ s
  · exact failBus_sameOutside c .arbLost s
  · exact failBus_sameOutside c .timeout s

/-- No sequencer step changes a parameter, an input event, a response, the rejection flag or the configuration. -/
theorem sequencerStep_sameOutside (s : State) : SameOutside s (sequencerStep s) := by
  unfold sequencerStep
  split
  · exact SameOutside.rfl' s
  · exact (record_drawn_sameOutside _ s).trans (afterLine_sameOutside _ _ (busStart s))
  · exact (record_drawn_sameOutside _ s).trans (afterWrite_sameOutside _ _ _ (busWrite _ s))
  · exact (record_drawn_sameOutside _ s).trans (afterWrite_sameOutside _ _ _ (busWrite _ s))
  · exact (record_drawn_sameOutside _ s).trans (afterLine_sameOutside _ _ (busRestart s))
  · exact (record_drawn_sameOutside _ s).trans (afterWrite_sameOutside _ _ _ (busWrite _ s))
  · exact (record_drawn_sameOutside _ s).trans
      (afterRead_sameOutside _ keepLsb (fun _ _ => ⟨rfl, rfl, rfl, rfl, rfl, rfl, rfl, rfl⟩) (busRead _ s))
  · exact (record_drawn_sameOutside _ s).trans
      (afterRead_sameOutside _ keepMsb (fun _ _ => ⟨rfl, rfl, rfl, rfl, rfl, rfl, rfl, rfl⟩) (busRead _ s))
  · exact (record_drawn_sameOutside _ s).trans
      (afterRead_sameOutside _ keepPec (fun _ _ => ⟨rfl, rfl, rfl, rfl, rfl, rfl, rfl, rfl⟩) (busRead _ s))
  · exact (record_drawn_sameOutside _ s).trans (afterLine_sameOutside _ _ (busStop s))
  · unfold stepValidate
    split <;> exact ⟨rfl, rfl, rfl, rfl, rfl, rfl, rfl, rfl⟩
  · exact ⟨rfl, rfl, rfl, rfl, rfl, rfl, rfl, rfl⟩

theorem sequencerStep_idle {s : State} (h : s.seqState = .idle) : sequencerStep s = s := by
  simp [sequencerStep, h]

/-! ## Commands -/

/-- Every command answers a next state: none stops the machine (R207). -/
theorem exec_next (i : Instr) (s : State) : ∃ t, exec i s = .next t := by
  cases i <;> exact ⟨_, rfl⟩

/-- Everything a command can do (R81, R184): nothing, a rejection, or its effect while no reading is in progress. -/
theorem exec_cases {i : Instr} {s t : State} (h : exec i s = .next t) :
    (i = .nop ∧ t = s) ∨
    (∃ r, r ≠ .none ∧ i ≠ .nop ∧ t = reject r s) ∨
    (s.seqState = .idle ∧
      ((∃ clk, clk ≠ 0#16 ∧ i = .cfg 0#1 clk ∧ t = configure 0#1 clk s) ∨
       (i = .read ∧ s.cfgDone = true ∧ t = startReading s) ∨
       (i = .crcInit ∧ t = { s with crcAcc := crcInitVal }) ∨
       (∃ b, i = .crcByte b ∧ t = foldByte b s) ∨
       (i = .clear ∧ t = { s with
          outcome := .none, busErrCause := .none, errState := .idle, cmdRejected := false, rejReason := .none }))) := by
  cases i with
  | nop => left; exact ⟨rfl, (Host.Outcome.next.inj h).symm⟩
  | cfg m clk =>
    right
    have ht := (Host.Outcome.next.inj h).symm
    split at ht
    · exact .inl ⟨_, by decide, by simp, ht⟩
    · split at ht
      · exact .inl ⟨_, by decide, by simp, ht⟩
      · split at ht
        · exact .inl ⟨_, by decide, by simp, ht⟩
        · rename_i hb hm hc
          have hm0 : m = 0#1 := by
            have : ∀ x : BitVec 1, x ≠ 1#1 → x = 0#1 := by decide
            exact this m hm
          subst hm0
          exact .inr ⟨by simpa using hb, .inl ⟨clk, hc, rfl, ht⟩⟩
  | read =>
    right
    have ht := (Host.Outcome.next.inj h).symm
    split at ht
    · exact .inl ⟨_, by decide, by simp, ht⟩
    · split at ht
      · exact .inl ⟨_, by decide, by simp, ht⟩
      · rename_i hb hc
        exact .inr ⟨by simpa using hb, .inr (.inl ⟨rfl, by simpa using hc, ht⟩)⟩
  | crcInit =>
    right
    have ht := (Host.Outcome.next.inj h).symm
    split at ht
    · exact .inl ⟨_, by decide, by simp, ht⟩
    · rename_i hb
      exact .inr ⟨by simpa using hb, .inr (.inr (.inl ⟨rfl, ht⟩))⟩
  | crcByte b =>
    right
    have ht := (Host.Outcome.next.inj h).symm
    split at ht
    · exact .inl ⟨_, by decide, by simp, ht⟩
    · rename_i hb
      exact .inr ⟨by simpa using hb, .inr (.inr (.inr (.inl ⟨b, rfl, ht⟩)))⟩
  | clear =>
    right
    have ht := (Host.Outcome.next.inj h).symm
    split at ht
    · exact .inl ⟨_, by decide, by simp, ht⟩
    · rename_i hb
      exact .inr ⟨by simpa using hb, .inr (.inr (.inr (.inr ⟨rfl, ht⟩)))⟩

/-- The reasons a word is rejected for by the decoder alone (R84, R85). -/
theorem decode_rejected {w : Word} {r : RejReason} (h : decode w = .rejected r) :
    r = .reservedOpcode ∨ r = .reservedField := by
  unfold decode at h
  split at h
  · exact .inl (Decoded.rejected.inj h).symm
  · split at h
    · exact .inr (Decoded.rejected.inj h).symm
    · split at h <;> first | exact .inl (Decoded.rejected.inj h).symm | nomatch h

/-! ## Host accesses and events -/

/-- The address of CMD is the only one in the window whose accepted write reaches the decoder. -/
theorem regAt_cmd_in_window {p : Params} {addr : Nat} (hw : inWindow p addr = true) (ha : addr % 4 = 0)
    (hr : regAt addr = .cmd) : addr = p.base := by
  simp only [inWindow, Bool.and_eq_true, decide_eq_true_eq] at hw
  simp only [Params.base] at hw ⊢
  have h8 : addr / 4 % 8 = 0 := by
    unfold regAt at hr
    split at hr <;> first | assumption | nomatch hr
  omega

@[simp] theorem regAt_regAddr (p : Params) (r : Reg) : regAt (regAddr p r) = r := by
  unfold regAt regAddr Params.base
  cases r <;> simp only [regOffset]
  · have h : (32 * p.window + 0) / 4 % 8 = 0 := by omega
    simp only [h]
  · have h : (32 * p.window + 4) / 4 % 8 = 1 := by omega
    simp only [h]
  · have h : (32 * p.window + 8) / 4 % 8 = 2 := by omega
    simp only [h]
  · have h : (32 * p.window + 12) / 4 % 8 = 3 := by omega
    simp only [h]
  · have h : (32 * p.window + 16) / 4 % 8 = 4 := by omega
    simp only [h]
  · have h : (32 * p.window + 20) / 4 % 8 = 5 := by omega
    simp only [h]
  · have h : (32 * p.window + 24) / 4 % 8 = 6 := by omega
    simp only [h]
  · have h : (32 * p.window + 28) / 4 % 8 = 7 := by omega
    simp only [h]

@[simp] theorem inWindow_regAddr (p : Params) (r : Reg) : inWindow p (regAddr p r) = true := by
  cases r <;> simp [inWindow, regAddr, regOffset]

@[simp] theorem accessAccepted_regAddr (p : Params) (r : Reg) : accessAccepted (regAddr p r) 4 = true := by
  cases r <;> simp [accessAccepted, regAddr, regOffset, Params.base] <;> omega

@[simp] theorem regAt_base (p : Params) : regAt p.base = .cmd := regAt_regAddr p .cmd

@[simp] theorem accessAccepted_base (p : Params) : accessAccepted p.base 4 = true := accessAccepted_regAddr p .cmd

/-- Everything one host access can do: a response only (no write to CMD), or a response and a command word. -/
theorem performAccess_cases {a : HostAccess} {s t : State} (h : performAccess a s = .next t) :
    (∃ r, (∀ w, a ≠ .write s.params.base 4 w) ∧ t = s.respond r) ∨
    (∃ w, a = .write s.params.base 4 w ∧ writeCommand w (s.respond (.writeDone s.params.base)) = .next t) := by
  cases a with
  | read addr n =>
    simp only [performAccess] at h
    split at h
    · left
      have ht := (Host.Outcome.next.inj h).symm
      unfold memRead at ht
      split at ht <;> exact ⟨_, by simp, ht⟩
    · nomatch h
  | write addr n v =>
    simp only [performAccess] at h
    split at h
    · rename_i hw
      unfold memWrite at h
      split at h
      · rename_i ha
        have ha' : n = 4 ∧ addr % 4 = 0 := by simpa [accessAccepted] using ha
        cases hr : regAt addr with
        | cmd =>
          right
          have := regAt_cmd_in_window hw ha'.2 hr
          subst this
          rw [hr] at h
          exact ⟨v, by rw [ha'.1], h⟩
        | _ =>
          left
          rw [hr] at h
          refine ⟨_, ?_, (Host.Outcome.next.inj h).symm⟩
          rintro w hw
          cases hw
          simp at hr
      · rename_i ha
        refine .inl ⟨_, ?_, (Host.Outcome.next.inj h).symm⟩
        rintro w hw
        cases hw
        simp at ha
    · nomatch h

/-- Everything one step can do (R70): a sequencer step, a reset, a response to the host, a rejected word, or a command. -/
theorem step_cases {s t : State} (h : step s = .next t) :
    (s.events = [] ∧ t = sequencerStep s) ∨
    (s.events.head? = some .sequencer ∧ t = sequencerStep s.popEvent) ∨
    (s.events.head? = some .reset ∧ t = applyReset s.popEvent) ∨
    (∃ a r, s.events.head? = some (.host a) ∧ (∀ w, ¬ writesCommand s w) ∧ t = s.popEvent.respond r) ∨
    (∃ w r, writesCommand s w ∧ decode w = .rejected r ∧ t = reject r (s.popEvent.respond (.writeDone s.params.base))) ∨
    (∃ w i, writesCommand s w ∧ decode w = .command i ∧ exec i (s.popEvent.respond (.writeDone s.params.base)) = .next t) := by
  unfold step nextEvent at h
  split at h
  · exact .inl ⟨‹_›, (Host.Outcome.next.inj h).symm⟩
  · rename_i a es he
    right; right; right
    rcases performAccess_cases h with ⟨r, hr, rfl⟩ | ⟨w, rfl, hw⟩
    · exact .inl ⟨a, r, by simp [he], fun w hw => hr w (by simpa [writesCommand, he] using hw), rfl⟩
    · right
      have hc : writesCommand s w := by simp [writesCommand, he]
      unfold writeCommand at hw
      split at hw
      · exact .inr ⟨w, _, hc, ‹_›, hw⟩
      · exact .inl ⟨w, _, hc, ‹_›, (Host.Outcome.next.inj hw).symm⟩
  · rename_i he
    exact .inr (.inl ⟨by simp [he], (Host.Outcome.next.inj h).symm⟩)
  · rename_i he
    exact .inr (.inr (.inl ⟨by simp [he], (Host.Outcome.next.inj h).symm⟩))

/-- Reads of registers see only the block's own registers and parameters. -/
theorem regRead_congr {s t : State} (r : Reg) (h1 : t.seqState = s.seqState) (h2 : t.outcome = s.outcome)
    (h3 : t.busErrCause = s.busErrCause) (h4 : t.errState = s.errState) (h5 : t.cmdRejected = s.cmdRejected)
    (h6 : t.rejReason = s.rejReason) (h7 : t.cfgDone = s.cfgDone) (h8 : t.addrMode = s.addrMode)
    (h9 : t.clkSel = s.clkSel) (h10 : t.crcAcc = s.crcAcc) (h11 : t.lsbBuf = s.lsbBuf) (h12 : t.msbBuf = s.msbBuf)
    (h13 : t.pecBuf = s.pecBuf) (h14 : t.celReg = s.celReg) (h15 : t.fahReg = s.fahReg)
    (h16 : t.params = s.params) : regRead r t = regRead r s := by
  cases r <;>
    simp [regRead, statusWord, configWord, dataWord, dataGate, resultGate, State.busy, h1, h2, h3, h4, h5, h6, h7, h8, h9,
      h10, h11, h12, h13, h14, h15, h16]

end Sys2Proof.Machine
end

