-- ==== Sys2Proof/Laws/PerInstr.lean ====
section
/-! SUPPORT. A statement about every command as syntax, one lemma per constructor: the word of a command carries the
command's opcode in OP and sets no bit the opcode may not have (30_encoding.md R81, R82). -/

namespace Sys2Proof.Laws.EncodedFields

/-- OP of the encoded word is the command's opcode, and only allowed bits are set. -/
def Statement (i : Instr) : Prop :=
  opField (encode i) = i.opcode ∧ encode i &&& ~~~ allowedBits i.opcode = 0#32

theorem nop : Statement .nop := by unfold Statement; decide

theorem cfg (addrMode : BitVec 1) (clkSel : BitVec 16) : Statement (.cfg addrMode clkSel) := by
  constructor
  · apply BitVec.eq_of_getLsbD_eq
    intro k hk
    interval_cases k <;> simp [opField, encode, Instr.opcode]
  · apply BitVec.eq_of_getLsbD_eq
    intro k hk
    interval_cases k <;> simp [encode, Instr.opcode, allowedBits]

theorem read : Statement .read := by unfold Statement; decide

theorem crcInit : Statement .crcInit := by unfold Statement; decide

theorem crcByte (byte : Byte) : Statement (.crcByte byte) := by
  constructor
  · apply BitVec.eq_of_getLsbD_eq
    intro k hk
    interval_cases k <;> simp [opField, encode, Instr.opcode]
  · apply BitVec.eq_of_getLsbD_eq
    intro k hk
    interval_cases k <;> simp [encode, Instr.opcode, allowedBits]

theorem clear : Statement .clear := by unfold Statement; decide

end Sys2Proof.Laws.EncodedFields
end

