-- ==== Sys2Proof/Tests/Slice0.lean ====
section
/-! SUPPORT. The model's own tests. Expected values are those of spec/95_test_vectors.md (the vector is named) or of the rule
named; every test runs at most one step. Then, for each statement with hypotheses, a witness that meets them. -/

namespace Sys2Proof.Tests

open Sys2Proof Sys2Proof.Machine

/-! ## Helpers -/

/-- The state of an outcome that is a next state. -/
def nextOf : Host.Outcome State Fault Refusal → Option State
  | .next s => some s
  | .fault _ => none
  | .refused _ => none

/-- Start state (C) of 95_test_vectors.md L2.4: after `CFG clk=100`. -/
def configured : State :=
  { State.reset with cfgDone := true, clkSel := 100#16, history := [.configure 0#1 100#16] }

/-- Start state (B) of L2.4: a reading in progress at TX_REG, CRC 0x05. -/
def atTxReg : State := { configured with seqState := .txReg, crcAcc := 0x05#8 }

/-- The end of program P1: an OK reading of bytes D2 3A 30. -/
def readDone : State :=
  { configured with
    outcome := .ok, crcAcc := 0x30#8, lsbBuf := 0xD2#8, msbBuf := 0x3A#8, pecBuf := 0x30#8
    celReg := 0x41E01480#32, fahReg := 0x42A4D606#32 }

/-- A reading in progress in state `c` with CRC_ACC `crc` and the answers listed. -/
def inState (c : SeqState) (crc : Byte) (answers : List BusDraw) : State :=
  { configured with seqState := c, crcAcc := crc, answers := answers }

/-- The state after a host write of `w` to CMD. -/
def afterCommand (s : State) (w : Word) : Option State := nextOf (step (s.withFetchWord 32 w.toNat))

/-- STATUS after a host write of `w` to CMD. -/
def statusAfter (s : State) (w : Word) : Option Word := (afterCommand s w).map (regRead .status)

/-- STATUS and CRC after one sequencer step (the host is silent). -/
def seqAfter (s : State) : Option (Word × Word) :=
  (nextOf (step s)).map fun t => (regRead .status t, regRead .crc t)

/-- A draw whose answer to a line primitive is `a`. -/
def lineDraw (a : LineAnswer) : BusDraw := { line := a, write := .timeout, read := .timeout }

/-- A draw whose answer to a write is `a`. -/
def writeDraw (a : WriteAnswer) : BusDraw := { line := .timeout, write := a, read := .timeout }

/-- A draw whose answer to a read is `a`. -/
def readDraw (a : ReadAnswer) : BusDraw := { line := .timeout, write := .timeout, read := a }

/-- The state with one listed event. -/
def withEvent (s : State) (e : Event) : State := { s with events := [e] }

/-! ## Well-formedness: an ill-formed term for each check of R86 -/

theorem test_mode_one_is_ill_formed : (Instr.cfg 1#1 100#16).wellFormed = false := by decide

theorem test_clock_zero_is_ill_formed : (Instr.cfg 0#1 0#16).wellFormed = false := by decide

theorem test_legal_cfg_is_well_formed : (Instr.cfg 0#1 100#16).wellFormed = true := by decide

/-! ## Decoding, word by word from R80, R82 and R83 -/

-- OP 0000, RSV 0000, DATA8 00000000, ARG16 zero (R82)
theorem test_decode_nop : decode 0b00000000000000000000000000000000#32 = .command .nop := by decide

-- ARG16 = 0000000001100100 (100 kHz), DATA8 bit 0 = ADDR_MODE = 0, OP 0001 (R82, R83)
theorem test_decode_cfg : decode 0b00000000011001000000000000000001#32 = .command (.cfg 0#1 100#16) := by decide

-- the same with ADDR_MODE = w[8] = 1
theorem test_decode_cfg_mode : decode 0b00000000011001000000000100000001#32 = .command (.cfg 1#1 100#16) := by decide

theorem test_decode_read : decode 0b00000000000000000000000000000010#32 = .command .read := by decide

theorem test_decode_crcInit : decode 0b00000000000000000000000000000011#32 = .command .crcInit := by decide

-- BYTE = w[15:8] = 10110100 (R83)
theorem test_decode_crcByte : decode 0b00000000000000001011010000000100#32 = .command (.crcByte 0xB4#8) := by decide

theorem test_decode_clear : decode 0b00000000000000000000000000000101#32 = .command .clear := by decide

-- R89: the encodings of the assembler table
theorem test_encode_cfg : encode (.cfg 1#1 0xFFFF#16) = 0xFFFF0101#32 := by decide

theorem test_encode_crcByte : encode (.crcByte 0xFF#8) = 0x0000FF04#32 := by decide

-- the table's row CFG, all operand bits set
theorem test_table_word : decodeTableWord 32 0xFFFF0101 = some (.cfg 1#1 0xFFFF#16) := by decide

-- R84: a reserved opcode decodes to no command
theorem test_table_word_reserved : decodeTableWord 32 6 = none := by decide

-- R82: no word belongs to two rows of the opcode table
theorem test_table_rows_do_not_overlap :
    opcodeTable.Pairwise (fun r q => r.bits &&& q.mask &&& r.mask ≠ q.bits &&& q.mask &&& r.mask) := by decide

/-! ## Control commands and rejection: L2.4, V-CTL-1 to V-CTL-22, STATUS after one write -/

-- start state (R), just after reset
theorem test_commands_after_reset :
    [(0x00000000#32, 0x00000000#32), (0x00000010#32, 0x00301000#32), (0x80000000#32, 0x00301000#32),
     (0x00000006#32, 0x00201000#32), (0x0000000F#32, 0x00201000#32), (0xFFFFFFFF#32, 0x00201000#32),
     (0x00640001#32, 0x00002000#32), (0xFFFF0001#32, 0x00002000#32), (0x00000001#32, 0x00301000#32),
     (0x00640101#32, 0x00401000#32), (0x00640011#32, 0x00301000#32), (0x00640201#32, 0x00301000#32),
     (0x00000002#32, 0x00501000#32), (0x00000102#32, 0x00301000#32), (0x00010002#32, 0x00301000#32),
     (0x00000003#32, 0x00000000#32), (0x0000FF04#32, 0x00000000#32), (0x00010004#32, 0x00301000#32),
     (0x00000014#32, 0x00301000#32), (0x00000005#32, 0x00000000#32), (0x00000025#32, 0x00301000#32)].all
      (fun p => statusAfter State.reset p.1 == some p.2) = true := by decide +kernel

-- start state (C), after CFG
theorem test_commands_configured :
    [(0x00000000#32, 0x00002000#32), (0x00000010#32, 0x00303000#32), (0xFFFFFFFF#32, 0x00203000#32),
     (0x00010001#32, 0x00002000#32), (0x00000001#32, 0x00303000#32), (0x00640101#32, 0x00403000#32),
     (0x00000002#32, 0x00002011#32), (0x00000003#32, 0x00002000#32), (0x0000FF04#32, 0x00002000#32),
     (0x00000005#32, 0x00002000#32), (0x00000025#32, 0x00303000#32)].all
      (fun p => statusAfter configured p.1 == some p.2) = true := by decide +kernel

-- start state (B), a reading in progress: BUSY, but reserved words first (R205)
theorem test_commands_while_busy :
    [(0x00000000#32, 0x00002013#32), (0x00000010#32, 0x00303013#32), (0x00000006#32, 0x00203013#32),
     (0x00640001#32, 0x00103013#32), (0x00000001#32, 0x00103013#32), (0x00640101#32, 0x00103013#32),
     (0x00640011#32, 0x00303013#32), (0x00000002#32, 0x00103013#32), (0x00000003#32, 0x00103013#32),
     (0x0000FF04#32, 0x00103013#32), (0x00000005#32, 0x00103013#32)].all
      (fun p => statusAfter atTxReg p.1 == some p.2) = true := by decide +kernel

-- V-CTL-7 and V-CTL-26: CONFIG after CFG clk=100 and then after CFG clk=400, and the BusConfigure event (R181)
theorem test_cfg_config :
    (afterCommand State.reset 0x00640001#32).map (fun t => (regRead .config t, t.history)) =
      some (0x00640000#32, [.configure 0#1 100#16]) := by decide +kernel

theorem test_cfg_again :
    (afterCommand configured 0x01900001#32).map (regRead .config) = some 0x01900000#32 := by decide +kernel

-- V-SEQ-4: READ erases the previous reading
theorem test_read_erases :
    (afterCommand readDone 0x00000002#32).map
      (fun t => (regRead .status t, regRead .data t, regRead .celsius t, regRead .crc t)) =
      some (0x00002011#32, 0x00000000#32, 0x7FC00000#32, 0x00000000#32) := by decide +kernel

-- V-CRC-17: CRC_INIT from 0x30, with STATUS, DATA and CELSIUS of the reading untouched (R144)
theorem test_crcInit :
    (afterCommand readDone 0x00000003#32).map
      (fun t => (regRead .crc t, regRead .status t, regRead .data t, regRead .celsius t)) =
      some (0x00000000#32, 0x00002100#32, 0x00303AD2#32, 0x41E01480#32) := by decide +kernel

-- V-CRC-18 and V-CRC-22: CRC_BYTE
theorem test_crcByte_first :
    (afterCommand State.reset 0x0000B404#32).map (regRead .crc) = some 0x00000005#32 := by decide +kernel

theorem test_crcByte_equal_to_accumulator :
    (afterCommand readDone 0x00003004#32).map (regRead .crc) = some 0x00000000#32 := by decide +kernel

-- V-CTL-23: CLEAR from STATUS 0x00123A00
theorem test_clear_bus_error :
    statusAfter { configured with
      outcome := .busError, busErrCause := .arbLost, errState := .txWaddr, cmdRejected := true, rejReason := .busy }
      0x00000005#32 = some 0x00002000#32 := by decide +kernel

-- V-CTL-24: CLEAR after an OK reading
theorem test_clear_result :
    (afterCommand readDone 0x00000005#32).map
      (fun t => (regRead .data t, regRead .celsius t, regRead .fahrenheit t, regRead .crc t, regRead .config t)) =
      some (0x00000000#32, 0x7FC00000#32, 0x7FC00000#32, 0x00000030#32, 0x00640000#32) := by decide +kernel

/-! ## The CRC engine: V-CRC-1 to V-CRC-14 -/

theorem test_crc8Step :
    [(0x00#8, 0x00#8, 0x00#8), (0x00#8, 0x01#8, 0x07#8), (0x00#8, 0x07#8, 0x15#8), (0x00#8, 0x80#8, 0x89#8),
     (0x00#8, 0xFF#8, 0xF3#8), (0xFF#8, 0xFF#8, 0x00#8), (0x12#8, 0x34#8, 0xF2#8), (0x00#8, 0xB4#8, 0x05#8)].all
      (fun v => crc8Step v.1 v.2.1 == v.2.2) = true := by decide +kernel

theorem test_crc8_check_value :
    crc8 [0x31#8, 0x32#8, 0x33#8, 0x34#8, 0x35#8, 0x36#8, 0x37#8, 0x38#8, 0x39#8] = 0xF4#8 := by decide +kernel

theorem test_crc8_contexts :
    crc8 [0x00#8, 0x07#8, 0x01#8, 0xD2#8, 0x3A#8] = 0x3F#8 ∧ crc8 [0xFE#8, 0x07#8, 0xFF#8, 0xD2#8, 0x3A#8] = 0x24#8 ∧
    crc8 [0xB4#8, 0x06#8, 0xB5#8, 0xD2#8, 0x3A#8] = 0x26#8 := by decide +kernel

-- R90, R92 with the default parameters
theorem test_pecInput :
    pecInput Params.default 0xD2#8 0x3A#8 = [0xB4#8, 0x07#8, 0xB5#8, 0xD2#8, 0x3A#8] := by decide

/-! ## The scaler: V-SCL-1 to V-SCL-16 (k, Celsius, t, Fahrenheit) -/

theorem test_scaler_low :
    [(0, 0x00000000#32, 0xC3889333#32, 0xC3F5D5C2#32, 0xC3E5D5C2#32),
     (1, 0x3CA3D70A#32, 0xC38890A4#32, 0xC3F5D127#32, 0xC3E5D127#32),
     (2, 0x3D23D70A#32, 0xC3888E14#32, 0xC3F5CC8A#32, 0xC3E5CC8A#32),
     (12769, 0x437F6147#32, 0xC18E28F8#32, 0xC1FFE358#32, 0x3C654000#32),
     (13643, 0x43886E14#32, 0xBE947C00#32, 0xBF05A2CD#32, 0x41FBD2EA#32),
     (13657, 0x438891EB#32, 0xBC240000#32, 0xBC939999#32, 0x41FFDB1A#32),
     (13658, 0x4388947B#32, 0x3C240000#32, 0x3C939999#32, 0x42001273#32),
     (13663, 0x4388A147#32, 0x3DE14000#32, 0x3E4AB999#32, 0x4200CABA#32)].all
      (fun v => kelvinOf (BitVec.ofNat 16 v.1) == v.2.1 && celsiusOf (BitVec.ofNat 16 v.1) == v.2.2.1 &&
        mul32 (celsiusOf (BitVec.ofNat 16 v.1)) fMul == v.2.2.2.1 && fahrenheitOf (BitVec.ofNat 16 v.1) == v.2.2.2.2)
      = true := by decide +kernel

theorem test_scaler_high :
    [(15000, 0x43960000#32, 0x41D6CCD0#32, 0x424151EE#32, 0x42A0A8F7#32),
     (15007, 0x439611EB#32, 0x41D7EB80#32, 0x424253F3#32, 0x42A129FA#32),
     (15008, 0x4396147B#32, 0x41D81480#32, 0x424278D9#32, 0x42A13C6C#32),
     (15010, 0x43961999#32, 0x41D86660#32, 0x4242C289#32, 0x42A16144#32),
     (15058, 0x4396947B#32, 0x41E01480#32, 0x4249AC0C#32, 0x42A4D606#32),
     (32767, 0x4423D5C2#32, 0x43BF1851#32, 0x442BFC49#32, 0x4433FC49#32),
     (32768, 0x4423D70A#32, 0x43BF1AE1#32, 0x442BFE97#32, 0x4433FE97#32),
     (65535, 0x44A3D666#32, 0x4481B199#32, 0x44E972E0#32, 0x44ED72E0#32)].all
      (fun v => kelvinOf (BitVec.ofNat 16 v.1) == v.2.1 && celsiusOf (BitVec.ofNat 16 v.1) == v.2.2.1 &&
        mul32 (celsiusOf (BitVec.ofNat 16 v.1)) fMul == v.2.2.2.1 && fahrenheitOf (BitVec.ofNat 16 v.1) == v.2.2.2.2)
      = true := by decide +kernel

/-! ## The sequencer: V-SEQ-1, one step from each state (STATUS and CRC after) -/

theorem test_sequencer_success :
    [(inState .start 0x00#8 [lineDraw .ok], 0x00002012#32, 0x00#32),
     (inState .txWaddr 0x00#8 [writeDraw .ack], 0x00002013#32, 0x05#32),
     (inState .txReg 0x05#8 [writeDraw .ack], 0x00002014#32, 0x0E#32),
     (inState .rstart 0x0E#8 [lineDraw .ok], 0x00002015#32, 0x0E#32),
     (inState .txRaddr 0x0E#8 [writeDraw .ack], 0x00002016#32, 0x28#32),
     (inState .rxLsb 0x28#8 [readDraw (.data 0xD2#8)], 0x00002017#32, 0xE8#32),
     (inState .rxMsb 0xE8#8 [readDraw (.data 0x3A#8)], 0x00002018#32, 0x30#32),
     (inState .rxPec 0x30#8 [readDraw (.data 0x30#8)], 0x00002019#32, 0x30#32),
     (inState .stop 0x30#8 [lineDraw .ok], 0x0000201A#32, 0x30#32),
     ({ inState .validate 0x30#8 [] with pecBuf := 0x30#8 }, 0x0000201B#32, 0x30#32),
     ({ inState .convert 0x30#8 [] with pecBuf := 0x30#8 }, 0x00002100#32, 0x30#32)].all
      (fun v => seqAfter v.1 == some (v.2.1, v.2.2)) = true := by decide +kernel

/-! V-SEQ-2: every bus failure, one step from the failing state (STATUS after). -/

theorem test_sequencer_failures :
    [(inState .start 0x00#8 [lineDraw .arbLost], 0x00012A00#32), (inState .start 0x00#8 [lineDraw .timeout], 0x00012E00#32),
     (inState .txWaddr 0x00#8 [writeDraw .nack, lineDraw .ok], 0x00022600#32),
     (inState .txWaddr 0x00#8 [writeDraw .arbLost], 0x00022A00#32),
     (inState .txWaddr 0x00#8 [writeDraw .timeout], 0x00022E00#32),
     (inState .txReg 0x05#8 [writeDraw .nack, lineDraw .timeout], 0x00032600#32),
     (inState .txReg 0x05#8 [writeDraw .arbLost], 0x00032A00#32),
     (inState .rstart 0x0E#8 [lineDraw .arbLost], 0x00042A00#32),
     (inState .rstart 0x0E#8 [lineDraw .timeout], 0x00042E00#32),
     (inState .txRaddr 0x0E#8 [writeDraw .nack, lineDraw .ok], 0x00052600#32),
     (inState .rxLsb 0x28#8 [readDraw .arbLost], 0x00062A00#32),
     (inState .rxMsb 0xE8#8 [readDraw .timeout], 0x00072E00#32),
     (inState .rxPec 0x30#8 [readDraw .arbLost], 0x00082A00#32),
     (inState .stop 0x30#8 [lineDraw .arbLost], 0x00092A00#32),
     (inState .stop 0x30#8 [lineDraw .timeout], 0x00092E00#32)].all
      (fun v => (seqAfter v.1).map Prod.fst == some v.2) = true := by decide +kernel

-- P4: the history of a NACK on the address: BusStop, BusRelease
theorem test_nack_history :
    (nextOf (step (inState .txWaddr 0x00#8 [writeDraw .nack, lineDraw .ok]))).map (·.history) =
      some [.configure 0#1 100#16, .write 0xB4#8 .nack, .stop .ok, .release] := by decide +kernel

-- L1-7: the history of a TIMEOUT while receiving: BusRelease, no BusStop
theorem test_timeout_history :
    (nextOf (step (inState .rxMsb 0xE8#8 [readDraw .timeout]))).map (·.history) =
      some [.configure 0#1 100#16, .read .ack .timeout, .release] := by decide +kernel

-- R121: the third byte is not acknowledged
theorem test_pec_not_acknowledged :
    (nextOf (step (inState .rxPec 0x30#8 [readDraw (.data 0x30#8)]))).map (·.history) =
      some [.configure 0#1 100#16, .read .nack (.data 0x30#8)] := by decide +kernel

-- L1-6: a corrupted check byte at VALIDATE: STATUS, DATA, CRC, CELSIUS
theorem test_integrity_error :
    (nextOf (step { inState .validate 0x30#8 [] with lsbBuf := 0xD2#8, msbBuf := 0x3A#8, pecBuf := 0x31#8 })).map
      (fun t => (regRead .status t, regRead .data t, regRead .crc t, regRead .celsius t)) =
      some (0x00002300#32, 0x00313AD2#32, 0x00000030#32, 0x7FC00000#32) := by decide +kernel

-- L1-4: CONVERT of the datasheet example
theorem test_convert_datasheet :
    (nextOf (step { inState .convert 0x30#8 [] with lsbBuf := 0xD2#8, msbBuf := 0x3A#8, pecBuf := 0x30#8 })).map
      (fun t => (regRead .data t, regRead .celsius t, regRead .fahrenheit t)) =
      some (0x00303AD2#32, 0x41E01480#32, 0x42A4D606#32) := by decide +kernel

/-! ## The register window: V-REG-1 to V-REG-11 -/

theorem test_registers_after_reset :
    [Reg.cmd, .status, .config, .data, .celsius, .fahrenheit, .crc, .param].map (fun r => regRead r State.reset) =
      [0x00000000#32, 0x00000000#32, 0x00000000#32, 0x00000000#32, 0x7FC00000#32, 0x7FC00000#32, 0x00000000#32,
        0x0007075A#32] := by decide +kernel

theorem test_param_other : paramWord { Params.default with devAddr := 0x7F#7, regSel := 0x06#8 } = 0x0007067F#32 := by
  decide

-- V-REG-4: a write to CELSIUS is ignored
theorem test_write_read_only :
    (nextOf (step (withEvent readDone (.host (.write 0x10 4 0x12345678#32))))).map (regRead .celsius) =
      some 0x41E01480#32 := by decide +kernel

-- V-REG-5, V-REG-6: HostAccessFault
theorem test_read_size_one :
    (nextOf (step (withEvent configured (.host (.read 0x04 1))))).map (·.responses) =
      some [.accessFault 0x04 1 .read] := by decide +kernel

theorem test_read_misaligned :
    (nextOf (step (withEvent configured (.host (.read 0x06 4))))).map (·.responses) =
      some [.accessFault 0x06 4 .read] := by decide +kernel

-- V-REG-7: a misaligned write of READ's word starts nothing
theorem test_write_misaligned :
    (nextOf (step (withEvent configured (.host (.write 0x02 4 0x00000002#32))))).map
      (fun t => (regRead .status t, t.responses)) =
      some (0x00002000#32, [.accessFault 0x02 4 .write]) := by decide +kernel

-- R62: the value of an accepted read goes to the host
theorem test_read_returns_value :
    (nextOf (step (withEvent readDone (.host (.read 0x0C 4))))).map (·.responses) =
      some [.readData 0x0C 0x00303AD2#32] := by decide +kernel

-- R63: the byte lanes of DATA after P1
theorem test_lanes : (List.range 4).map (byteLane 0x00303AD2#32) = [0xD2#8, 0x3A#8, 0x30#8, 0x00#8] := by decide

/-! ## Reset: V-RST-1 to V-RST-3 -/

-- V-RST-2: reset at TX_REG releases the bus and clears everything
theorem test_reset_in_reading :
    (nextOf (step (withEvent atTxReg .reset))).map
      (fun t => (regRead .status t, regRead .config t, regRead .crc t, t.history)) =
      some (0x00000000#32, 0x00000000#32, 0x00000000#32, [.configure 0#1 100#16, .release]) := by decide +kernel

-- V-RST-3: reset in CONVERT performs no bus event
theorem test_reset_in_convert :
    (nextOf (step (withEvent (inState .convert 0x30#8 []) .reset))).map (·.history) =
      some [.configure 0#1 100#16] := by decide +kernel

/-! ## Witnesses: states and operands that meet the hypotheses of the statements -/

theorem witness_encodeInvertsDecode : decode 0x00640001#32 = .command (.cfg 0#1 100#16) := by decide

theorem witness_decoderAgrees_command : decode 0x00000002#32 = .command .read ∧ ⟨"READ", 0x2#32, 0xFFFFFFFF#32⟩ ∈ opcodeTable := by
  decide

theorem witness_decoderAgrees_rejected : decode 0x00000006#32 = .rejected .reservedOpcode := by decide

theorem witness_reservedOpcodes : 6 ≤ ((0x00000006#32).extractLsb' 0 4).toNat ∧ 6 ≤ ((0xFFFFFFFF#32).extractLsb' 0 4).toNat := by
  decide

theorem witness_reservedBits :
    ((0x80000000#32).extractLsb' 0 4 = 0#4 ∧ 0x80000000#32 ≠ 0#32) ∧
    ((0x00000201#32).extractLsb' 0 4 = 1#4 ∧ 0x00000201#32 &&& 0x0000FEF0#32 ≠ 0#32) ∧
    ((0x80000002#32).extractLsb' 0 4 = 2#4 ∧ 0x80000002#32 &&& 0xFFFFFFF0#32 ≠ 0#32) ∧
    ((0x00000103#32).extractLsb' 0 4 = 3#4 ∧ 0x00000103#32 &&& 0xFFFFFFF0#32 ≠ 0#32) ∧
    ((0x00010004#32).extractLsb' 0 4 = 4#4 ∧ 0x00010004#32 &&& 0xFFFF00F0#32 ≠ 0#32) ∧
    ((0x00000025#32).extractLsb' 0 4 = 5#4 ∧ 0x00000025#32 &&& 0xFFFFFFF0#32 ≠ 0#32) := by decide

theorem witness_decisionProcedure_rejects :
    rejectionOf 0x00640101#32 State.reset = some .addrModeUnsupported ∧
    rejectionOf 0x00000001#32 State.reset = some .reservedField ∧
    rejectionOf 0x00000002#32 State.reset = some .notConfigured ∧
    rejectionOf 0x00000002#32 atTxReg = some .busy := by decide +kernel

theorem witness_decisionProcedure_executes :
    rejectionOf 0x00000002#32 configured = none ∧ rejectionOf 0x00000000#32 atTxReg = none := by decide +kernel

theorem witness_stepRunsTheDecodedCommand :
    (configured.withFetchWord 32 2).events = .host (.write configured.params.base 4 0x2#32) :: [] ∧
    decode 0x2#32 = .command .read := by decide +kernel

theorem witness_stepRejects :
    (configured.withFetchWord 32 6).events = .host (.write configured.params.base 4 0x6#32) :: [] ∧
    decode 0x6#32 = .rejected .reservedOpcode := by decide +kernel

theorem witness_placedCommand : decode (BitVec.ofNat 32 0xFFFF0001) = .command (.cfg 0#1 0xFFFF#16) ∧ 0xFFFF0001 < 4294967296 := by
  decide

theorem witness_reads :
    ∃ (s : State), s.events = .host (.read (regAddr s.params .celsius) 4) :: .host (.read (regAddr s.params .celsius) 4) :: [] :=
  ⟨{ readDone with events := [.host (.read 0x10 4), .host (.read 0x10 4)] }, by decide⟩

/-- A read followed by a command: the first clause of ReadsHaveNoSideEffects alone. -/
theorem witness_read_then_command :
    ∃ s : State, s.events = .host (.read (regAddr s.params .data) 4) :: [.host (.write s.params.base 4 0x5#32)] :=
  ⟨{ readDone with events := [.host (.read 0x0C 4), .host (.write 0 4 0x5#32)] }, by decide⟩

theorem witness_unaccepted :
    ∃ s : State, s.params.base ≤ 0x1F ∧ 0x1F < s.params.base + 32 ∧ 0x1F % 4 ≠ 0 ∧ s.events = .host (.read 0x1F 4) :: [] :=
  ⟨withEvent configured (.host (.read 0x1F 4)), by decide, by decide, by decide, rfl⟩

theorem witness_unaccepted_write :
    ∃ s : State, s.params.base ≤ 0 ∧ 0 < s.params.base + 32 ∧ 2 ≠ 4 ∧ s.events = .host (.write 0 2 0x2#32) :: [] :=
  ⟨withEvent configured (.host (.write 0 2 0x2#32)), by decide, by decide, by decide, rfl⟩

theorem witness_readOnly :
    ∃ s : State, Reg.param ≠ .cmd ∧ s.events = .host (.write (regAddr s.params .param) 4 0xFFFFFFFF#32) :: [] :=
  ⟨withEvent configured (.host (.write 0x1C 4 0xFFFFFFFF#32)), by decide, by decide⟩

theorem witness_outside_above :
    ∃ s : State, s.params.base + 32 ≤ 32 ∧ s.events = .host (.read 32 4) :: [] :=
  ⟨withEvent configured (.host (.read 32 4)), by decide, rfl⟩

theorem witness_outside_below :
    ∃ s : State, 31 < s.params.base ∧ s.events = .host (.write 31 4 0#32) :: [] :=
  ⟨{ withEvent configured (.host (.write 31 4 0#32)) with params := { Params.default with window := 1 } }, by decide, rfl⟩

theorem witness_sequencerEvent :
    (withEvent atTxReg .sequencer).events = .sequencer :: [] ∧ atTxReg.events = [] ∧ configured.seqState = .idle := by decide

theorem witness_registerMap :
    (Reg.cmd, 0x00) ∈ [(Reg.cmd, 0x00), (.status, 0x04), (.config, 0x08), (.data, 0x0C), (.celsius, 0x10), (.fahrenheit, 0x14),
      (.crc, 0x18), (.param, 0x1C)] ∧
    (Reg.param, 0x1C) ∈ [(Reg.cmd, 0x00), (.status, 0x04), (.config, 0x08), (.data, 0x0C), (.celsius, 0x10),
      (.fahrenheit, 0x14), (.crc, 0x18), (.param, 0x1C)] := by decide

theorem witness_lanes : (0 < 4 ∧ 0 < 8) ∧ (3 < 4 ∧ 7 < 8) := by decide

theorem witness_dataGate_open : readDone.outcome = .ok ∧ { readDone with outcome := .integrityError }.outcome = .integrityError := by
  decide

theorem witness_dataGate_closed : configured.outcome = .none ∧ { readDone with outcome := .busError }.outcome = .busError := by decide

theorem witness_temperatureGate : readDone.outcome = .ok ∧ configured.outcome ≠ .ok := by decide

theorem witness_resetEvent_owning : (withEvent atTxReg .reset).events = .reset :: [] ∧ atTxReg.seqState.transacting = true := by
  decide

theorem witness_resetEvent_idle : (withEvent readDone .reset).events = .reset :: [] ∧ readDone.seqState.transacting = false := by
  decide

/-- For CfgCompletes, CfgRejectsReservedOperands, CrcInitCompletes, CrcByteCompletes and ClearCompletes. -/
theorem witness_idle : State.reset.seqState = .idle ∧ (1#16 ≠ 0#16) ∧ (0xFFFF#16 ≠ 0#16) := by decide

theorem witness_readCompletes : readDone.seqState = .idle ∧ readDone.cfgDone = true := by decide

theorem witness_readBeforeCfg : State.reset.seqState = .idle ∧ State.reset.cfgDone = false := by decide

theorem witness_busyRejections :
    atTxReg.seqState ≠ .idle ∧ Instr.cfg 0#1 1#16 ≠ .nop ∧ Instr.read ≠ .nop ∧ Instr.crcInit ≠ .nop ∧
    Instr.crcByte 0#8 ≠ .nop ∧ Instr.clear ≠ .nop := by decide

theorem witness_commandFrames : ∃ t, exec .crcInit State.reset = .next t := ⟨_, rfl⟩

theorem witness_idempotent :
    ∃ t u, Instr.cfg 0#1 5#16 ≠ .read ∧ (∀ b, Instr.cfg 0#1 5#16 ≠ .crcByte b) ∧
      exec (.cfg 0#1 5#16) State.reset = .next t ∧ exec (.cfg 0#1 5#16) t = .next u :=
  ⟨_, _, by decide, by simp, rfl, rfl⟩

/-- The rejected case of the CFG clause, and its accepted case at the clock's largest value. -/
theorem witness_idempotent_rejected :
    ∃ t u, ¬(State.reset.seqState = .idle ∧ (1#1 = 0#1) ∧ 5#16 ≠ 0#16) ∧
      exec (.cfg 1#1 5#16) State.reset = .next t ∧ exec (.cfg 1#1 5#16) t = .next u :=
  ⟨_, _, by decide, rfl, rfl⟩

theorem witness_idempotent_accepted :
    ∃ t u, (State.reset.seqState = .idle ∧ (0#1 = 0#1) ∧ 0xFFFF#16 ≠ 0#16) ∧
      exec (.cfg 0#1 0xFFFF#16) State.reset = .next t ∧ exec (.cfg 0#1 0xFFFF#16) t = .next u :=
  ⟨_, _, by decide, rfl, rfl⟩

theorem witness_onlyResetStops_host :
    ∃ s t : State, s.seqState ≠ .idle ∧ step s = .next t ∧ s.events.head? = some (.host (.write 0 4 0x5#32)) :=
  ⟨withEvent atTxReg (.host (.write 0 4 0x5#32)), _, by decide, rfl, rfl⟩

theorem witness_onlyResetStops_reset :
    ∃ s t : State, s.seqState ≠ .idle ∧ step s = .next t ∧ nextIsReset s :=
  ⟨withEvent atTxReg .reset, _, by decide, rfl, rfl⟩

theorem witness_rejectionSticky_set :
    ∃ t, rejectionOf 0x6#32 State.reset = some .reservedOpcode ∧ writeCommand 0x6#32 State.reset = .next t :=
  ⟨_, by decide, rfl⟩

theorem witness_rejectionSticky_cleared :
    ∃ s t : State, step s = .next t ∧ s.cmdRejected = true ∧ t.cmdRejected = false :=
  ⟨withEvent { configured with cmdRejected := true, rejReason := .busy } (.host (.write 0 4 0x5#32)), _, rfl, rfl, by decide⟩

theorem witness_outcomeWriters :
    ∃ s t : State, step s = .next t ∧ t.outcome ≠ s.outcome :=
  ⟨inState .convert 0#8 [], _, rfl, by decide⟩

theorem witness_historyGrows : ∃ s t : State, step s = .next t ∧ s.history.length < t.history.length :=
  ⟨inState .start 0#8 [lineDraw .ok], _, rfl, by decide⟩

theorem witness_survivors :
    configured.seqState = .idle ∧ readDone.seqState = .idle ∧ configured.cfgDone = true ∧ readDone.cfgDone = true ∧
    configured.addrMode = readDone.addrMode ∧ configured.clkSel = readDone.clkSel ∧
    configured.cmdRejected = readDone.cmdRejected ∧ configured.rejReason = readDone.rejReason ∧
    configured.history = readDone.history ∧ configured.params = readDone.params ∧ configured.events = readDone.events ∧
    configured.answers = readDone.answers ∧ configured.freeDraws = readDone.freeDraws ∧
    configured.responses = readDone.responses ∧ configured ≠ readDone := by decide

theorem witness_framing :
    (inState .start 0#8 [lineDraw .ok]).nextDraw.line = .ok ∧ (inState .rstart 0#8 [lineDraw .arbLost]).nextDraw.line = .arbLost ∧
    (inState .stop 0#8 [lineDraw .timeout]).nextDraw.line = .timeout := by decide

theorem witness_transmit :
    (inState .txWaddr 0#8 [writeDraw .ack]).nextDraw.write = .ack ∧
    (inState .txReg 0#8 [writeDraw .nack]).nextDraw.write = .nack ∧
    (inState .txRaddr 0#8 [writeDraw .arbLost]).nextDraw.write = .arbLost ∧
    (inState .txRaddr 0#8 [writeDraw .timeout]).nextDraw.write = .timeout := by decide

theorem witness_receive :
    (inState .rxLsb 0#8 [readDraw (.data 0#8)]).nextDraw.read = .data 0#8 ∧
    (inState .rxMsb 0#8 [readDraw (.data 0xFF#8)]).nextDraw.read = .data 0xFF#8 ∧
    (inState .rxPec 0#8 [readDraw .arbLost]).nextDraw.read = .arbLost ∧
    (inState .rxPec 0#8 [readDraw .timeout]).nextDraw.read = .timeout := by decide

theorem witness_oracle : (inState .start 0#8 [lineDraw .ok]).answers = lineDraw .ok :: [] ∧ State.reset.answers = [] := by decide

theorem witness_validate :
    (inState .validate 0#8 []).seqState = .validate ∧ (inState .validate 0#8 []).crcAcc = (inState .validate 0#8 []).pecBuf ∧
    (inState .validate 1#8 []).crcAcc ≠ (inState .validate 1#8 []).pecBuf := by decide

theorem witness_convert : (inState .convert 0#8 []).seqState = .convert := rfl

theorem witness_readingEnds : (inState .start 0#8 []).seqState = .start := rfl

theorem witness_goodReading :
    ∃ s : State, s.seqState = .idle ∧ s.cfgDone = true ∧
      s.events = [.host (.write s.params.base 4 0x00000002#32)] ∧
      s.answers = goodAnswers 0xD2#8 0x3A#8 (crc8 [waddr s.params, s.params.regSel, raddr s.params, 0xD2#8, 0x3A#8]) ++ [] :=
  ⟨{ configured.withFetchWord 32 2 with answers := goodAnswers 0xD2#8 0x3A#8 0x30#8 }, by decide +kernel⟩

theorem witness_corruptedReading :
    ∃ s : State, s.seqState = .idle ∧ s.cfgDone = true ∧
      0x31#8 ≠ crc8 [waddr s.params, s.params.regSel, raddr s.params, 0xD2#8, 0x3A#8] ∧
      s.events = [.host (.write s.params.base 4 0x00000002#32)] ∧
      s.answers = goodAnswers 0xD2#8 0x3A#8 0x31#8 ++ [] :=
  ⟨{ configured.withFetchWord 32 2 with answers := goodAnswers 0xD2#8 0x3A#8 0x31#8 }, by decide +kernel⟩

/-- A reachable state in the middle of a reading is consistent: the premise of StepsKeepConsistency is met there. -/
theorem witness_consistent_busy : Consistent atTxReg where
  cause := by decide
  errBus := by decide
  errIdle := by decide
  busyOutcome := by decide
  busyConfigured := by decide
  addrMode := by decide
  clkSel := by decide
  rejection := by decide
  crc := by
    intro seq h
    obtain rfl := Option.some.inj h
    decide +kernel
  matched := by decide
  result := by decide
  mismatch := by decide
  noResult := by decide

/-- The end of a good reading is consistent, and shows its temperatures. -/
theorem witness_consistent_result : Consistent readDone where
  cause := by decide
  errBus := by decide
  errIdle := by decide
  busyOutcome := by decide
  busyConfigured := by decide
  addrMode := by decide
  clkSel := by decide
  rejection := by decide
  crc := by
    intro seq h
    exact absurd (h.symm.trans (show foldedBytes readDone = none from rfl)) (by simp)
  matched := by decide
  result := by decide +kernel
  mismatch := by decide
  noResult := by decide

theorem witness_shownTemperatures : regRead .celsius readDone ≠ 0x7FC00000#32 ∧ regRead .fahrenheit readDone ≠ 0x7FC00000#32 := by
  decide

/-- For StepsKeepConsistency and OnlyResetClearsTheConfiguration, whose step is not a reset. -/
theorem witness_consistentStep : ∃ t, step atTxReg = .next t ∧ ¬ nextIsReset atTxReg :=
  ⟨_, rfl, by simp [nextIsReset, atTxReg, configured, State.reset, State.resetWith]⟩

/-- The clauses of OnlyResetClearsTheConfiguration about CFG_DONE and CLK_SEL (for the reset clause: witness_resultReadsChange
below, whose step is a reset of a consistent state). -/
theorem witness_configurationHeld : atTxReg.cfgDone = true ∧ atTxReg.clkSel ≠ 0#16 := by decide

/-- For ResultReadsChangeOnlyAtReadingBoundaries and OnlyResetClearsTheConfiguration: a reset. -/
theorem witness_resultReadsChange :
    ∃ s t : State, Consistent s ∧ step s = .next t ∧ nextIsReset s ∧ regRead .celsius t ≠ regRead .celsius s :=
  ⟨withEvent readDone .reset, _,
    { cause := by decide, errBus := by decide, errIdle := by decide, busyOutcome := by decide, busyConfigured := by decide
      addrMode := by decide, clkSel := by decide, rejection := by decide
      crc := fun seq h => absurd (h.symm.trans (show foldedBytes (withEvent readDone .reset) = none from rfl)) (by simp)
      matched := by decide, result := by decide +kernel
      mismatch := by decide, noResult := by decide }, rfl, rfl, by decide +kernel⟩

theorem witness_crcErrorDetection :
    { inState .validate 0x30#8 [] with pecBuf := 0xB0#8 }.seqState = .validate ∧
    { inState .validate 0x30#8 [] with pecBuf := 0xB0#8 }.pecBuf = 0x30#8 ^^^ (1#8 <<< 7) := by decide

theorem witness_integers : 16777215 < 16777216 := by decide

theorem witness_rounding :
    isSpecial kLsb = false ∧ isSpecial kOff = false ∧ isSpecial (mul32 kLsb kOff) = false ∧
    isSpecial (add32 kLsb kOff) = false ∧ isSpecial (sub32 kLsb kOff) = false ∧ isSpecial fOff = false := by decide +kernel

/-- Both sides of the overflow threshold: the largest finite number plus a quarter of its unit stays finite, plus a half of it
does not (a tie, to even), and the sign of an overflow is the exact result's. -/
theorem witness_overflow :
    add32 0x7F7FFFFF#32 0x72800000#32 = 0x7F7FFFFF#32 ∧ add32 0x7F7FFFFF#32 0x73000000#32 = 0x7F800000#32 ∧
    mul32 0xFF7FFFFF#32 0x40000000#32 = 0xFF800000#32 ∧
    |(scaledValue 0x7F7FFFFF#32 + scaledValue 0x72800000#32) * 2 ^ 149| < (2 ^ 25 - 1) * 2 ^ 401 ∧
    (scaledValue 0x7F7FFFFF#32 + scaledValue 0x73000000#32) * 2 ^ 149 = (2 ^ 25 - 1) * 2 ^ 401 := by decide +kernel

theorem witness_increasing : (0#16).toNat < (0xFFFF#16).toNat := by decide

end Sys2Proof.Tests
end

/-! What the registers of the window read as (10_state.md R24, R34 to R36): the bits of a field placed in a register,
and from them the layout of STATUS and the gates of DATA, CELSIUS and FAHRENHEIT. -/

namespace Sys2Proof.Machine

/-! ## Fields of a register -/

theorem getElem_place {n : Nat} (field : BitVec n) (lo i : Nat) (h : i < 32) :
    (place field lo)[i] = (decide (lo ≤ i) && field.getLsbD (i - lo)) := by
  by_cases hlo : i < lo
  · simp [place, hlo]
  · simp [place, hlo, Nat.le_of_not_lt hlo]

/-- A register shows a field whole at the field's place. -/
theorem extractLsb'_place_self {n : Nat} (field : BitVec n) (lo : Nat) (h : lo + n ≤ 32) :
    (place field lo).extractLsb' lo n = field := by
  apply BitVec.eq_of_getElem_eq
  intro i hi
  have hi32 : lo + i < 32 := by omega
  simp [hi, hi32, getElem_place]

/-- A field shows in no bits but its own. -/
theorem getElem_place_disjoint {n : Nat} (field : BitVec n) (lo i : Nat) (hi : i < 32) (h : i < lo ∨ lo + n ≤ i) :
    (place field lo)[i] = false := by
  rw [getElem_place]
  rcases h with h | h
  · simp [h]
  · have hn : n ≤ i - lo := by omega
    simp [hn]

theorem extractLsb'_place_disjoint {n : Nat} (field : BitVec n) (lo lo' m : Nat) (h : lo' + m ≤ lo ∨ lo + n ≤ lo') :
    (place field lo).extractLsb' lo' m = 0#m := by
  apply BitVec.eq_of_getElem_eq
  intro i hi
  rw [BitVec.getElem_extractLsb', BitVec.getElem_zero]
  by_cases h32 : lo' + i < 32
  · rw [BitVec.getLsbD_eq_getElem h32]
    exact getElem_place_disjoint field lo _ h32 (by omega)
  · exact BitVec.getLsbD_of_ge _ _ (by omega)

/-- The low bits of a register show a field shifted to its place. -/
theorem extractLsb'_zero_place {n : Nat} (field : BitVec n) (lo m : Nat) (h : m ≤ 32) :
    (place field lo).extractLsb' 0 m = field.setWidth m <<< lo := by
  apply BitVec.eq_of_getElem_eq
  intro i hi
  have hi32 : i < 32 := by omega
  by_cases hlo : i < lo
  · simp [hi32, getElem_place, hlo]
  · simp [hi32, getElem_place, hlo, Nat.le_of_not_lt hlo]

theorem getElem_place_flag (b : Bool) (lo : Nat) (h : lo < 32) : (place (flag b) lo)[lo] = b := by
  simp [getElem_place, flag]

/-! ## DATA -/

theorem dataWord_of_gate_open {s : State} (h : s.outcome = .ok ∨ s.outcome = .integrityError) :
    dataWord s = place s.lsbBuf 0 ||| place s.msbBuf 8 ||| place s.pecBuf 16 := by
  rcases h with h | h <;> simp [dataWord, dataGate, h]

theorem dataWord_of_gate_closed {s : State} (h : s.outcome = .none ∨ s.outcome = .busError) : dataWord s = 0#32 := by
  rcases h with h | h <;> simp [dataWord, dataGate, h]

/-! ## The statements -/

/-- Settles O17: each clause reads the eight placed fields of STATUS one by one, of which at most one shows. -/
theorem statusLayout : Obligations.StatusLayout := by
  unfold Obligations.StatusLayout
  refine ⟨fun s => ?_, by decide, by decide, by decide, by decide, by decide⟩
  have hread : regRead .status s = statusWord s := rfl
  simp [hread, statusWord, BitVec.extractLsb'_or, extractLsb'_place_self, extractLsb'_place_disjoint,
    getElem_place_flag, getElem_place_disjoint]

/-- Settles O18, for an open and for a closed gate. -/
theorem dataIsGated : Obligations.DataIsGated := by
  unfold Obligations.DataIsGated
  refine fun s => ⟨fun hopen => ?_, fun hclosed => dataWord_of_gate_closed hclosed⟩
  have hread : regRead .data s = place s.lsbBuf 0 ||| place s.msbBuf 8 ||| place s.pecBuf 16 :=
    dataWord_of_gate_open hopen
  have hraw : (regRead .data s).extractLsb' 0 16 = rawReading s.msbBuf s.lsbBuf := by
    simp [hread, rawReading, BitVec.extractLsb'_or, extractLsb'_zero_place, BitVec.or_comm]
  refine ⟨?_, ?_, ?_, ?_, hraw⟩ <;>
    simp [hread, BitVec.extractLsb'_or, extractLsb'_place_self, extractLsb'_place_disjoint]

/-- Settles O19: both registers are read through the one gate `resultGate`. -/
theorem temperaturesAreGated : Obligations.TemperaturesAreGated := by
  unfold Obligations.TemperaturesAreGated
  refine fun s => ⟨fun hok => ?_, fun hnot => ?_⟩
  · have hgate : resultGate s = true := by simp [resultGate, hok]
    simp [regRead, hgate]
  · have hgate : resultGate s = false := by simp [resultGate, hnot]
    simp [regRead, hgate, gatedNaN]

end Sys2Proof.Machine

/-! Rejected command words (10_state.md R29, 30_encoding.md R81): the decision procedure on raw words against the
decoder and the meanings, and from it when CMD_REJECTED is set and cleared. -/

namespace Sys2Proof.Machine

/-! ## What the decoder accepts -/

/-- Everything a word that decodes to a command can be (R82, R83, R85). -/
theorem decode_command_cases {w : Word} {i : Instr} (h : decode w = .command i) :
    w &&& ~~~ allowedBits (opField w) = 0#32 ∧
    ((opField w = 0#4 ∧ i = .nop) ∨
     (opField w = 1#4 ∧ i = .cfg (addrModeField w) (clkSelField w)) ∨
     (opField w = 2#4 ∧ i = .read) ∨
     (opField w = 3#4 ∧ i = .crcInit) ∨
     (opField w = 4#4 ∧ i = .crcByte (byteField w)) ∨
     (opField w = 5#4 ∧ i = .clear)) := by
  unfold decode at h
  split at h
  · nomatch h
  · split at h
    · nomatch h
    · rename_i hbits
      refine ⟨not_not.mp hbits, ?_⟩
      split at h <;> rename_i hop
      case h_7 => nomatch h
      all_goals
        cases h
        simp [← BitVec.toNat_inj, hop]

theorem eq_opField_of_high_bits_zero {w : Word} (h : w &&& 0xFFFFFFF0#32 = 0#32) : w = (opField w).setWidth 32 := by
  apply BitVec.eq_of_getLsbD_eq
  intro i hi
  have hbit := congrArg (BitVec.getLsbD · i) h
  interval_cases i <;> simp [opField] at hbit ⊢ <;> assumption

/-- CLEAR has one word (R82, R88). -/
theorem decode_eq_clear_iff {w : Word} : decode w = .command .clear ↔ w = 0x00000005#32 := by
  constructor
  · intro h
    obtain ⟨hbits, hcases⟩ := decode_command_cases h
    have hop : opField w = 5#4 := by simpa using hcases
    rw [hop] at hbits
    rw [eq_opField_of_high_bits_zero hbits, hop]
    rfl
  · rintro rfl
    decide

/-! ## The decision procedure on raw words -/

/-- The masks of `rejectionOf` are the bits outside ALLOWED(op) (R81). -/
theorem rejectionOf_mask (op : BitVec 4) (h : op.toNat ≤ 5) :
    (if op.toNat = 1 then 0x0000FEF0#32 else if op.toNat = 4 then 0xFFFF00F0#32
      else if op.toNat = 0 then 0xFFFFFFFF#32 else 0xFFFFFFF0#32) = ~~~ allowedBits op := by
  revert op
  decide

/-- The reasons of R81 that are left to the meaning of a decoded command. -/
def execRejection (i : Instr) (s : State) : Option RejReason :=
  if i = .nop then none
  else if s.seqState ≠ .idle then some .busy
  else
    match i with
    | .cfg addrMode clkSel =>
      if addrMode = 1#1 then some .addrModeUnsupported else if clkSel = 0#16 then some .reservedField else none
    | .read => if s.cfgDone = false then some .notConfigured else none
    | .nop | .crcInit | .crcByte _ | .clear => none

theorem addrModeField_eq_one_iff (w : Word) : addrModeField w = 1#1 ↔ w[8] = true := by
  have hbit : ∀ x : BitVec 1, x = 1#1 ↔ x.getLsbD 0 = true := by decide
  simp [hbit, addrModeField]

/-- A word the decoder rejects is rejected for the same reason, whatever the state. -/
theorem rejectionOf_of_decode_rejected {w : Word} {r : RejReason} (h : decode w = .rejected r) (s : State) :
    rejectionOf w s = some r := by
  unfold decode at h
  split at h
  · rename_i hop
    rw [← Decoded.rejected.inj h]
    exact if_pos hop
  · rename_i hop
    split at h
    · rename_i hbits
      rw [← rejectionOf_mask _ (Nat.le_of_not_lt hop)] at hbits
      rw [← Decoded.rejected.inj h]
      exact (if_neg hop).trans (if_pos hbits)
    · split at h
      case h_7 => simp only [imp_false] at *; omega
      all_goals nomatch h

/-- A word that decodes to a command is rejected for the reasons its meaning has. -/
theorem rejectionOf_of_decode_command {w : Word} {i : Instr} (h : decode w = .command i) (s : State) :
    rejectionOf w s = execRejection i s := by
  obtain ⟨hbits, hcases⟩ := decode_command_cases h
  have hext : w.extractLsb' 0 4 = opField w := rfl
  rcases hcases with ⟨hop, rfl⟩ | ⟨hop, rfl⟩ | ⟨hop, rfl⟩ | ⟨hop, rfl⟩ | ⟨hop, rfl⟩ | ⟨hop, rfl⟩ <;>
    rw [hop] at hbits hext <;>
    simp [allowedBits] at hbits
  case inr.inl =>
    have hmode := addrModeField_eq_one_iff w
    by_cases hm : w[8] = true <;> by_cases hclk : w.extractLsb' 16 16 = 0#16 <;>
      simp [rejectionOf, execRejection, hext, hbits, hmode, hm, clkSelField, hclk]
  all_goals simp [rejectionOf, execRejection, hext, hbits]

/-- Every command but NOP is rejected while a reading is in progress (R81). -/
theorem exec_of_busy {i : Instr} (hi : i ≠ .nop) {s : State} (hb : s.busy = true) :
    exec i s = .next (reject .busy s) := by
  cases i with
  | nop => exact absurd rfl hi
  | _ => exact congrArg Host.Outcome.next (if_pos hb)

/-- A decoded command with a reason of its own is rejected for that reason (R81). -/
theorem exec_of_execRejection {i : Instr} {s : State} {r : RejReason} (h : execRejection i s = some r) :
    exec i s = .next (reject r s) := by
  have hi : i ≠ .nop := by
    rintro rfl
    simp [execRejection] at h
  by_cases hidle : s.seqState = .idle
  · have hb : s.busy = false := (busy_eq_false_iff s).mpr hidle
    cases i with
    | cfg m c =>
      simp only [execRejection, hi, hidle, ne_eq, not_true, if_false] at h
      split_ifs at h with hm hclk
      · simp [exec, execCfg, hb, hm, Option.some.inj h]
      · simp [exec, execCfg, hb, hm, hclk, Option.some.inj h]
    | read =>
      obtain ⟨hcfg, rfl⟩ : s.cfgDone = false ∧ RejReason.notConfigured = r := by
        simpa [execRejection, hidle] using h
      simp [exec, execRead, hb, hcfg]
    | _ => simp [execRejection, hidle] at h
  · obtain rfl : RejReason.busy = r := by simpa [execRejection, hi, hidle] using h
    exact exec_of_busy hi ((busy_eq_true_iff s).mpr hidle)

/-- A word with a reason in R81's procedure is rejected for it. -/
theorem writeCommand_of_rejectionOf {w : Word} {s : State} {r : RejReason} (h : rejectionOf w s = some r) :
    writeCommand w s = .next (reject r s) := by
  unfold writeCommand
  split
  · rename_i i hd
    rw [rejectionOf_of_decode_command hd] at h
    exact exec_of_execRejection h
  · rename_i reason hd
    rw [rejectionOf_of_decode_rejected hd] at h
    rw [Option.some.inj h]

/-! ## The rejection flag -/

/-- CLEAR in IDLE clears the flag (R183), and no other command in any state. -/
theorem exec_cmdRejected_false_iff {i : Instr} {s t : State} (h : exec i s = .next t) (hs : s.cmdRejected = true) :
    t.cmdRejected = false ↔ s.seqState = .idle ∧ i = .clear := by
  rcases exec_cases h with ⟨rfl, rfl⟩ | ⟨r, -, -, rfl⟩ | ⟨hidle, hacc⟩
  · simp [hs]
  · suffices ¬ (s.seqState = .idle ∧ i = .clear) by simpa
    rintro ⟨hidle, rfl⟩
    have hb : s.busy = false := (busy_eq_false_iff s).mpr hidle
    have hflag := congrArg State.cmdRejected (Host.Outcome.next.inj h)
    simp [hb] at hflag
  · rcases hacc with ⟨clk, -, rfl, rfl⟩ | ⟨rfl, -, rfl⟩ | ⟨rfl, rfl⟩ | ⟨b, rfl, rfl⟩ | ⟨rfl, rfl⟩
    · simp [configure, busConfigure, hs]
    · simp [startReading, hs]
    · simp [hs]
    · simp [hs]
    · simp [hidle]

theorem writesCommand_iff_eq {s : State} {w : Word} (h : writesCommand s w) (v : Word) : writesCommand s v ↔ w = v := by
  unfold writesCommand at h ⊢
  simp [h]

theorem not_nextIsReset_of_writesCommand {s : State} {w : Word} (h : writesCommand s w) : ¬ nextIsReset s := by
  unfold writesCommand at h
  simp [nextIsReset, h]

/-- An accepted CLEAR or a reset, and nothing else, clears a set CMD_REJECTED. -/
theorem step_cmdRejected_false_iff {s t : State} (h : step s = .next t) (hs : s.cmdRejected = true) :
    t.cmdRejected = false ↔ nextIsReset s ∨ (s.seqState = .idle ∧ writesCommand s 0x00000005#32) := by
  rcases step_cases h with ⟨he, rfl⟩ | ⟨he, rfl⟩ | ⟨he, rfl⟩ | ⟨a, r, he, hno, rfl⟩ | ⟨w, r, hw, hd, rfl⟩ | ⟨w, i, hw, hd, hx⟩
  · simp [(sequencerStep_sameOutside s).cmdRejected, hs, nextIsReset, writesCommand, he]
  · simp [(sequencerStep_sameOutside s.popEvent).cmdRejected, hs, nextIsReset, writesCommand, he]
  · simp [nextIsReset, he, applyReset, State.resetWith]
  · simp [hs, nextIsReset, he, hno]
  · have hne : w ≠ 0x00000005#32 := by
      rw [← decode_eq_clear_iff.ne, hd]
      simp
    simp [not_nextIsReset_of_writesCommand hw, writesCommand_iff_eq hw, hne]
  · rw [exec_cmdRejected_false_iff hx hs, writesCommand_iff_eq hw, ← decode_eq_clear_iff, hd]
    simp [not_nextIsReset_of_writesCommand hw]

/-- Settles O37: a reason of R81 makes the word a rejection, and a step clears the flag only as `step_cases` allows. -/
theorem rejectionFlagIsSticky : Obligations.RejectionFlagIsSticky := by
  unfold Obligations.RejectionFlagIsSticky
  refine ⟨fun w s t reason hrej hwrite => ?_, fun s t hstep hs => step_cmdRejected_false_iff hstep hs⟩
  have ht := hwrite.symm.trans (writeCommand_of_rejectionOf hrej)
  rw [Host.Outcome.next.inj ht, reject_cmdRejected]

end Sys2Proof.Machine

/-! Command words (30_encoding.md R81, R84 to R86): the words rejected whatever the state, the operands CFG rejects, and
what the words R81 does not reject do. -/

namespace Sys2Proof.Machine

/-! ## Reserved opcodes -/

/-- R81 asks for a reserved opcode first, whatever the other bits and the state. -/
theorem rejectionOf_reservedOpcode {w : Word} (h : 6 ≤ (w.extractLsb' 0 4).toNat) (s : State) :
    rejectionOf w s = some .reservedOpcode := if_pos h

/-! ## Words without a reason -/

/-- Only in IDLE is a command other than NOP executed (R81). -/
theorem idle_of_execRejection_eq_none {i : Instr} (hi : i ≠ .nop) {s : State} (h : execRejection i s = none) :
    s.seqState = .idle := by
  by_contra hbusy
  simp [execRejection, hi, hbusy] at h

/-- A decoded command without a reason of its own has the effect its word has in R81. -/
theorem exec_of_execRejection_eq_none {w : Word} {i : Instr} (hd : decode w = .command i) {s : State}
    (h : execRejection i s = none) : exec i s = .next (effectOf w s) := by
  obtain ⟨-, ⟨hop, rfl⟩ | hcases⟩ := decode_command_cases hd
  · have hext : w.extractLsb' 0 4 = 0#4 := hop
    simp [exec, execNop, effectOf, hext]
  have hi : i ≠ .nop := by
    rintro rfl
    simp at hcases
  have hidle := idle_of_execRejection_eq_none hi h
  have hb : s.busy = false := (busy_eq_false_iff s).mpr hidle
  have hext : w.extractLsb' 0 4 = opField w := rfl
  rcases hcases with ⟨hop, rfl⟩ | ⟨hop, rfl⟩ | ⟨hop, rfl⟩ | ⟨hop, rfl⟩ | ⟨hop, rfl⟩ <;>
    rw [hop] at hext
  · have hmode : addrModeField w ≠ 1#1 := fun hm => by simp [execRejection, hidle, hm] at h
    have hclk : clkSelField w ≠ 0#16 := fun hc => by simp [execRejection, hidle, hmode, hc] at h
    have heffect : effectOf w s = configure (addrModeField w) (clkSelField w) s := by
      simp [effectOf, hext, configure, busConfigure, State.record, addrModeField, clkSelField]
    simp [exec, execCfg, hb, hmode, hclk, heffect]
  · have hcfg : s.cfgDone = true := by simpa [execRejection, hidle] using h
    simp [exec, execRead, hb, hcfg, effectOf, hext]
  · simp [exec, execCrcInit, hb, crcInitVal, effectOf, hext]
  · simp [exec, execCrcByte, hb, foldByte, byteField, effectOf, hext]
  · simp [exec, execClear, hb, effectOf, hext]

/-- A word without a reason in R81's procedure is executed. -/
theorem writeCommand_of_rejectionOf_eq_none {w : Word} {s : State} (h : rejectionOf w s = none) :
    writeCommand w s = .next (effectOf w s) := by
  unfold writeCommand
  split
  · rename_i i hd
    rw [rejectionOf_of_decode_command hd] at h
    exact exec_of_execRejection_eq_none hd h
  · rename_i reason hd
    rw [rejectionOf_of_decode_rejected hd] at h
    nomatch h

/-! ## The statements -/

/-- Settles O5: a reserved opcode is R81's first reason. -/
theorem reservedOpcodesAreRejected : Obligations.ReservedOpcodesAreRejected := by
  unfold Obligations.ReservedOpcodesAreRejected
  exact fun w s hop => writeCommand_of_rejectionOf (rejectionOf_reservedOpcode hop s)

/-- Settles O6: reserved bits are R81's second reason, and no opcode up to 5 gives the first. -/
theorem reservedBitsAreRejected : Obligations.ReservedBitsAreRejected := by
  unfold Obligations.ReservedBitsAreRejected
  intro w s h
  have hreason : rejectionOf w s = some .reservedField := by
    rcases h with ⟨hop, hbits⟩ | ⟨hop, hbits⟩ | ⟨hop | hop | hop, hbits⟩ | ⟨hop, hbits⟩
    case inl =>
      have hmask : w &&& 0xFFFFFFFF#32 = w := BitVec.and_allOnes
      simp [rejectionOf, hop, hmask, hbits]
    all_goals simp [rejectionOf, hop, hbits]
  exact writeCommand_of_rejectionOf hreason

/-- Settles O7: with a reason the word is rejected for it, without one its decoded command runs. -/
theorem commandWordsFollowTheDecisionProcedure : Obligations.CommandWordsFollowTheDecisionProcedure := by
  unfold Obligations.CommandWordsFollowTheDecisionProcedure
  exact fun w s => ⟨fun _ => writeCommand_of_rejectionOf, writeCommand_of_rejectionOf_eq_none⟩

/-- Settles O26: in IDLE the mode is asked for first and the clock second. -/
theorem cfgRejectsReservedOperands : Obligations.CfgRejectsReservedOperands := by
  unfold Obligations.CfgRejectsReservedOperands
  refine fun s hidle => ⟨fun clk => ?_, ?_⟩
  · have hmode : execRejection (.cfg 1#1 clk) s = some .addrModeUnsupported := by simp [execRejection, hidle]
    exact exec_of_execRejection hmode
  · have hclk : execRejection (.cfg 0#1 0#16) s = some .reservedField := by simp [execRejection, hidle]
    exact exec_of_execRejection hclk

end Sys2Proof.Machine

/-! Events during a reading (41_sequencer.md R119): what a host access and a reset do to a reading in progress. -/

namespace Sys2Proof.Machine

/-- While a reading is in progress a command does nothing or is rejected (R81, R182). -/
theorem exec_eq_self_or_reject_of_busy {i : Instr} {s t : State} (hbusy : s.seqState ≠ .idle) (h : exec i s = .next t) :
    t = s ∨ ∃ reason, t = reject reason s := by
  rcases exec_cases h with ⟨-, ht⟩ | ⟨reason, -, -, ht⟩ | ⟨hidle, -⟩
  · exact .inl ht
  · exact .inr ⟨reason, ht⟩
  · exact absurd hidle hbusy

/-- While a reading is in progress a host access leaves a response and at most a rejection (R119). -/
theorem step_host_of_busy {s t : State} {a : HostAccess} (hbusy : s.seqState ≠ .idle)
    (ha : s.events.head? = some (.host a)) (h : step s = .next t) :
    ∃ r, t = s.popEvent.respond r ∨ ∃ reason, t = reject reason (s.popEvent.respond r) := by
  rcases step_cases h with ⟨he, -⟩ | ⟨he, -⟩ | ⟨he, -⟩ | ⟨-, r, -, -, ht⟩ | ⟨-, reason, -, -, ht⟩ | ⟨-, i, -, -, hx⟩
  · simp [he] at ha
  · simp [he] at ha
  · simp [he] at ha
  · exact ⟨r, .inl ht⟩
  · exact ⟨_, .inr ⟨reason, ht⟩⟩
  · exact ⟨_, exec_eq_self_or_reject_of_busy hbusy hx⟩

/-- A reset as the next event is always taken, whatever the block is doing (R70, R230). -/
theorem step_of_nextIsReset {s : State} (h : nextIsReset s) : step s = .next (applyReset s.popEvent) := by
  obtain ⟨rest, he⟩ := List.head?_eq_some_iff.mp h
  simp [step, nextEvent, he]

/-- Settles O35: of the step's host cases only a response and a rejection are left, and neither touches the reading. -/
theorem onlyResetStopsAReading : Obligations.OnlyResetStopsAReading := by
  unfold Obligations.OnlyResetStopsAReading
  refine fun s t hbusy hstep => ⟨fun a ha => ?_, fun hreset => ?_⟩
  · obtain ⟨r, rfl | ⟨reason, rfl⟩⟩ := step_host_of_busy hbusy ha hstep <;> simp
  · obtain rfl := Host.Outcome.next.inj ((step_of_nextIsReset hreset).symm.trans hstep)
    exact ⟨rfl, rfl⟩

end Sys2Proof.Machine

/-! The framing and the receiving states (41_sequencer.md R104, R107, R109 to R112): one bus primitive each, recorded
with its answer, and then the move to the next state or fail_bus (R116). -/

namespace Sys2Proof.Machine

/-! ## After a recorded primitive -/

theorem goTo_record_drawn (next : SeqState) (e : BusEvent) (s : State) :
    goTo next (s.drawn.record e) = { s.drawn with history := s.history ++ [e], seqState := next } := by
  simp [goTo, State.record]

/-- After ARB_LOST or TIMEOUT `fail_bus` adds the release to the failed primitive's event and draws no answer (R116). -/
theorem failBus_record_drawn {a : BusFailure} (ha : a ≠ .nack) (c : SeqState) (e : BusEvent) (s : State) :
    failBus c a (s.drawn.record e) = { s.drawn with
      history := s.history ++ [e, .release]
      outcome := .busError, busErrCause := failureCause a, errState := c, seqState := .idle } := by
  cases a with
  | nack => exact absurd rfl ha
  | arbLost => simp [failBus_arbLost, failureCause, State.record]
  | timeout => simp [failBus_timeout, failureCause, State.record]

/-! ## START, RSTART and STOP -/

/-- Each framing state performs its own line primitive and goes on by the answer. -/
theorem sequencerStep_framing {s : State} {c next : SeqState} {ev : LineAnswer → BusEvent}
    (hmem : (c, next, ev) ∈ [(SeqState.start, SeqState.txWaddr, BusEvent.start), (.rstart, .txRaddr, .restart),
      (.stop, .validate, .stop)])
    (hs : s.seqState = c) :
    sequencerStep s = afterLine c next (s.nextDraw.line, s.drawn.record (ev s.nextDraw.line)) := by
  simp only [List.mem_cons, Prod.mk.injEq, List.not_mem_nil, or_false] at hmem
  rcases hmem with ⟨rfl, rfl, rfl⟩ | ⟨rfl, rfl, rfl⟩ | ⟨rfl, rfl, rfl⟩
  · simp [sequencerStep, hs, stepStart, busStart]
  · simp [sequencerStep, hs, stepRstart, busRestart]
  · simp [sequencerStep, hs, stepStop, busStop]

/-- Settles O42, by the answer of the one line primitive. -/
theorem framingStates : Obligations.FramingStates := by
  unfold Obligations.FramingStates
  intro s c next ev hmem hs
  rw [sequencerStep_framing hmem hs]
  refine ⟨fun hok => ?_, fun hlost => ?_, fun htimeout => ?_⟩
  · rw [hok]
    exact goTo_record_drawn next (ev .ok) s
  · rw [hlost]
    exact failBus_record_drawn (a := .arbLost) (by decide) c (ev .arbLost) s
  · rw [htimeout]
    exact failBus_record_drawn (a := .timeout) (by decide) c (ev .timeout) s

/-! ## RX_LSB, RX_MSB and RX_PEC -/

theorem sequencerStep_rxLsb {s : State} (hs : s.seqState = .rxLsb) :
    sequencerStep s = afterRead .rxLsb keepLsb (s.nextDraw.read, s.drawn.record (.read .ack s.nextDraw.read)) := by
  simp [sequencerStep, hs, stepRxLsb, busRead]

theorem sequencerStep_rxMsb {s : State} (hs : s.seqState = .rxMsb) :
    sequencerStep s = afterRead .rxMsb keepMsb (s.nextDraw.read, s.drawn.record (.read .ack s.nextDraw.read)) := by
  simp [sequencerStep, hs, stepRxMsb, busRead]

theorem sequencerStep_rxPec {s : State} (hs : s.seqState = .rxPec) :
    sequencerStep s = afterRead .rxPec keepPec (s.nextDraw.read, s.drawn.record (.read .nack s.nextDraw.read)) := by
  simp [sequencerStep, hs, stepRxPec, busRead]

/-- Each receiving state performs one read; they differ in the acknowledge bit and in what keeps the byte. -/
theorem sequencerStep_receive {s : State} {c : SeqState} {reply : AckBit}
    (hmem : (c, reply) ∈ [(SeqState.rxLsb, AckBit.ack), (.rxMsb, .ack), (.rxPec, .nack)]) (hs : s.seqState = c) :
    ∃ keep, sequencerStep s = afterRead c keep (s.nextDraw.read, s.drawn.record (.read reply s.nextDraw.read)) := by
  simp only [List.mem_cons, Prod.mk.injEq, List.not_mem_nil, or_false] at hmem
  rcases hmem with ⟨rfl, rfl⟩ | ⟨rfl, rfl⟩ | ⟨rfl, rfl⟩
  · exact ⟨keepLsb, sequencerStep_rxLsb hs⟩
  · exact ⟨keepMsb, sequencerStep_rxMsb hs⟩
  · exact ⟨keepPec, sequencerStep_rxPec hs⟩

/-- Settles O44: a byte is kept as its state says; a failure ends the reading, whatever would have kept the byte. -/
theorem receiveStates : Obligations.ReceiveStates := by
  unfold Obligations.ReceiveStates
  refine fun s => ⟨fun v hv => ⟨fun hs => ?_, fun hs => ?_, fun hs => ?_⟩, fun c reply a cause hc ha hs hread => ?_⟩
  · rw [sequencerStep_rxLsb hs, hv]
    simp [afterRead, keepLsb, goTo, foldByte, State.record]
  · rw [sequencerStep_rxMsb hs, hv]
    simp [afterRead, keepMsb, goTo, foldByte, State.record]
  · rw [sequencerStep_rxPec hs, hv]
    simp [afterRead, keepPec, goTo, State.record]
  · obtain ⟨keep, hstep⟩ := sequencerStep_receive hc hs
    rw [hstep, hread]
    simp only [List.mem_cons, Prod.mk.injEq, List.not_mem_nil, or_false] at ha
    rcases ha with ⟨rfl, rfl⟩ | ⟨rfl, rfl⟩
    · exact failBus_record_drawn (a := .arbLost) (by decide) c _ s
    · exact failBus_record_drawn (a := .timeout) (by decide) c _ s

end Sys2Proof.Machine

/-! The validator's step (42_validator.md R146): the comparison of the two check bytes, and what the registers show after a
mismatch. -/

namespace Sys2Proof.Machine

/-! ## VALIDATE -/

theorem sequencerStep_validate {s : State} (hs : s.seqState = .validate) : sequencerStep s = stepValidate s := by
  simp only [sequencerStep, hs]

theorem stepValidate_of_match {s : State} (h : s.crcAcc = s.pecBuf) : stepValidate s = goTo .convert s :=
  if_pos h

theorem stepValidate_of_mismatch {s : State} (h : s.crcAcc ≠ s.pecBuf) :
    stepValidate s = { s with outcome := .integrityError, seqState := .idle } :=
  if_neg h

/-! ## DATA and CRC as numbers -/

theorem word_toNat_eq_bytes (w : Word) :
    w.toNat = 16777216 * (w.extractLsb' 24 8).toNat + 65536 * (w.extractLsb' 16 8).toNat +
      256 * (w.extractLsb' 8 8).toNat + (w.extractLsb' 0 8).toNat := by
  have hw : w.toNat < 4294967296 := w.isLt
  simp only [BitVec.extractLsb'_toNat, Nat.shiftRight_eq_div_pow, Nat.reducePow]
  omega

/-- Through an open gate DATA is the number {PEC_BUF, MSB_BUF, LSB_BUF} (R34). -/
theorem regRead_data_toNat_of_gate_open {s : State} (h : s.outcome = .ok ∨ s.outcome = .integrityError) :
    (regRead .data s).toNat = 65536 * s.pecBuf.toNat + 256 * s.msbBuf.toNat + s.lsbBuf.toNat := by
  obtain ⟨hlsb, hmsb, hpec, htop, -⟩ := (dataIsGated s).1 h
  rw [word_toNat_eq_bytes, hlsb, hmsb, hpec, htop, BitVec.toNat_zero, Nat.mul_zero, Nat.zero_add]

theorem regRead_crc_low_byte (s : State) : (regRead .crc s).extractLsb' 0 8 = s.crcAcc :=
  extractLsb'_place_self s.crcAcc 0 (by decide)

/-! ## The statement -/

/-- Settles O46: after a mismatch OUTCOME is INTEGRITY_ERROR, which opens the gate of DATA and keeps that of the
temperatures closed. -/
theorem validateStep : Obligations.ValidateStep := by
  unfold Obligations.ValidateStep
  intro s hs
  rw [sequencerStep_validate hs]
  refine ⟨stepValidate_of_match, fun hne => ?_⟩
  rw [stepValidate_of_mismatch hne]
  obtain ⟨hcelsius, hfahrenheit⟩ :=
    (temperaturesAreGated { s with outcome := .integrityError, seqState := .idle }).2 nofun
  exact ⟨rfl, hcelsius, hfahrenheit, regRead_data_toNat_of_gate_open (.inr rfl), regRead_crc_low_byte _⟩

end Sys2Proof.Machine

/-! The scaler's step (43_scaler.md R160 to R163): the raw reading as a number, and each temperature as the spec's operations
on it with the constants written out. -/

namespace Sys2Proof.Machine

/-! ## The raw reading -/

theorem rawReading_eq_append (msb lsb : Byte) : rawReading msb lsb = msb ++ lsb := by
  rw [rawReading, BitVec.append_def, BitVec.shiftLeftZeroExtend_eq, BitVec.setWidth'_eq]

/-- The two bytes do not overlap, so joining them is adding them (R161). -/
theorem rawReading_toNat (msb lsb : Byte) : (rawReading msb lsb).toNat = 256 * msb.toNat + lsb.toNat := by
  rw [rawReading_eq_append, BitVec.toNat_append, ← Nat.shiftLeft_add_eq_or_of_lt lsb.isLt, Nat.shiftLeft_eq, Nat.mul_comm]

/-! ## The temperatures -/

/-- Celsius from the rounded kelvin value (R162, R163). -/
theorem celsiusOf_rawReading (msb lsb : Byte) :
    celsiusOf (rawReading msb lsb) =
      sub32 (mul32 (f32 (256 * msb.toNat + lsb.toNat)) 0x3CA3D70A#32) 0x43889333#32 := by
  rw [celsiusOf, kelvinOf, rawReading_toNat, kLsb, kOff]

/-- Fahrenheit from the rounded Celsius value (R162, R163). -/
theorem fahrenheitOf_eq_of_celsiusOf (raw : BitVec 16) :
    fahrenheitOf raw = add32 (mul32 (celsiusOf raw) 0x3FE66666#32) 0x42000000#32 := by
  rw [fahrenheitOf, fahrenheitFrom, fMul, fOff]

/-! ## CONVERT -/

theorem sequencerStep_convert {s : State} (hs : s.seqState = .convert) : sequencerStep s = stepConvert s := by
  simp only [sequencerStep, hs]

/-- Settles O47: CONVERT writes the temperatures of the raw reading, each the operations of R162 on the one before it. -/
theorem convertStep : Obligations.ConvertStep := by
  unfold Obligations.ConvertStep
  intro s hs
  rw [sequencerStep_convert hs, stepConvert, fahrenheitOf_eq_of_celsiusOf, celsiusOf_rawReading]

end Sys2Proof.Machine

/-! The configuration (44_control.md R181, 70_reset_and_hazards.md R232): CFG_DONE, ADDR_MODE and CLK_SEL are written by an
accepted CFG and by a reset, and by nothing else. -/

namespace Sys2Proof.Machine

/-- From `s` to `t` the configuration stays, or it becomes one that CFG accepts (R86, R181). -/
def ConfigurationKeptOrAccepted (s t : State) : Prop :=
  (t.cfgDone = s.cfgDone ∧ t.addrMode = s.addrMode ∧ t.clkSel = s.clkSel) ∨
  (t.cfgDone = true ∧ t.addrMode = 0#1 ∧ t.clkSel ≠ 0#16)

/-- Of the commands only an accepted CFG writes the configuration (R181, R184). -/
theorem exec_configurationKeptOrAccepted {i : Instr} {s t : State} (h : exec i s = .next t) :
    ConfigurationKeptOrAccepted s t := by
  rcases exec_cases h with ⟨-, rfl⟩ | ⟨r, -, -, rfl⟩ | ⟨-, hacc⟩
  · exact .inl ⟨rfl, rfl, rfl⟩
  · exact .inl ⟨rfl, rfl, rfl⟩
  · rcases hacc with ⟨clk, hclk, -, rfl⟩ | ⟨-, -, rfl⟩ | ⟨-, rfl⟩ | ⟨b, -, rfl⟩ | ⟨-, rfl⟩
    · exact .inr ⟨rfl, rfl, hclk⟩
    all_goals exact .inl ⟨rfl, rfl, rfl⟩

/-- No step but a reset takes the configuration away (R232). -/
theorem step_configurationKeptOrAccepted {s t : State} (h : step s = .next t) (hreset : ¬ nextIsReset s) :
    ConfigurationKeptOrAccepted s t := by
  rcases step_cases h with ⟨-, rfl⟩ | ⟨-, rfl⟩ | ⟨he, -⟩ | ⟨a, r, -, -, rfl⟩ | ⟨w, r, -, -, rfl⟩ | ⟨w, i, -, -, hx⟩
  · have hsame := sequencerStep_sameOutside s
    exact .inl ⟨hsame.cfgDone, hsame.addrMode, hsame.clkSel⟩
  · have hsame := sequencerStep_sameOutside s.popEvent
    exact .inl ⟨hsame.cfgDone, hsame.addrMode, hsame.clkSel⟩
  · exact absurd he hreset
  · exact .inl ⟨rfl, rfl, rfl⟩
  · exact .inl ⟨rfl, rfl, rfl⟩
  · simpa [ConfigurationKeptOrAccepted] using exec_configurationKeptOrAccepted hx

/-- Settles O36: a configuration that CFG accepts has the one ADDR_MODE that a consistent state has. -/
theorem onlyResetClearsTheConfiguration : Obligations.OnlyResetClearsTheConfiguration := by
  unfold Obligations.OnlyResetClearsTheConfiguration
  refine fun s t hs hstep => ⟨fun hreset => ?_, fun hreset => ?_⟩
  · obtain rfl := Host.Outcome.next.inj ((step_of_nextIsReset hreset).symm.trans hstep)
    exact ⟨rfl, rfl, rfl⟩
  · rcases step_configurationKeptOrAccepted hstep hreset with ⟨hdone, hmode, hclk⟩ | ⟨hdone, hmode, hclk⟩
    · exact ⟨hdone.trans, fun hne => hclk ▸ hne, hmode⟩
    · exact ⟨fun _ => hdone, fun _ => hclk, hmode.trans hs.addrMode.symm⟩

end Sys2Proof.Machine

/-! The commands and their words (30_encoding.md R82, R83, R89): the decoder reads a command, with its operands, from the
command's word. -/

namespace Sys2Proof.Machine

/-! ## The operands of an encoded command -/

theorem addrModeField_encode_cfg (addrMode : BitVec 1) (clkSel : BitVec 16) :
    addrModeField (encode (.cfg addrMode clkSel)) = addrMode := by
  have hop : (0x1#32).extractLsb' 8 1 = 0#1 := rfl
  change (place clkSel 16 ||| place addrMode 8 ||| 0x1#32).extractLsb' 8 1 = addrMode
  rw [BitVec.extractLsb'_or, BitVec.extractLsb'_or, extractLsb'_place_disjoint clkSel 16 8 1 (.inl (by decide)),
    extractLsb'_place_self addrMode 8 (by decide), hop, BitVec.zero_or, BitVec.or_zero]

theorem clkSelField_encode_cfg (addrMode : BitVec 1) (clkSel : BitVec 16) :
    clkSelField (encode (.cfg addrMode clkSel)) = clkSel := by
  have hop : (0x1#32).extractLsb' 16 16 = 0#16 := rfl
  change (place clkSel 16 ||| place addrMode 8 ||| 0x1#32).extractLsb' 16 16 = clkSel
  rw [BitVec.extractLsb'_or, BitVec.extractLsb'_or, extractLsb'_place_self clkSel 16 (by decide),
    extractLsb'_place_disjoint addrMode 8 16 16 (.inr (by decide)), hop, BitVec.or_zero, BitVec.or_zero]

theorem byteField_encode_crcByte (byte : Byte) : byteField (encode (.crcByte byte)) = byte := by
  have hop : (0x4#32).extractLsb' 8 8 = 0#8 := rfl
  change (place byte 8 ||| 0x4#32).extractLsb' 8 8 = byte
  rw [BitVec.extractLsb'_or, extractLsb'_place_self byte 8 (by decide), hop, BitVec.or_zero]

/-! ## Decoding -/

theorem decode_of_op_cfg {w : Word} (hop : opField w = 0x1#4) (hbits : w &&& ~~~ allowedBits 0x1#4 = 0#32) :
    decode w = .command (.cfg (addrModeField w) (clkSelField w)) := by
  have hle : ¬ 5 < (opField w).toNat := by rw [hop]; decide
  have hset : ¬ w &&& ~~~ allowedBits (opField w) ≠ 0#32 := by rw [hop]; exact not_not.mpr hbits
  refine (if_neg hle).trans ((if_neg hset).trans ?_)
  rw [hop]
  rfl

theorem decode_of_op_crcByte {w : Word} (hop : opField w = 0x4#4) (hbits : w &&& ~~~ allowedBits 0x4#4 = 0#32) :
    decode w = .command (.crcByte (byteField w)) := by
  have hle : ¬ 5 < (opField w).toNat := by rw [hop]; decide
  have hset : ¬ w &&& ~~~ allowedBits (opField w) ≠ 0#32 := by rw [hop]; exact not_not.mpr hbits
  refine (if_neg hle).trans ((if_neg hset).trans ?_)
  rw [hop]
  rfl

/-- The decoder reads a command from its word (R83, R89). -/
theorem decode_encode (i : Instr) : decode (encode i) = .command i := by
  cases i with
  | cfg addrMode clkSel =>
    obtain ⟨hop, hbits⟩ := Laws.EncodedFields.cfg addrMode clkSel
    rw [decode_of_op_cfg hop hbits, addrModeField_encode_cfg, clkSelField_encode_cfg]
  | crcByte byte =>
    obtain ⟨hop, hbits⟩ := Laws.EncodedFields.crcByte byte
    rw [decode_of_op_crcByte hop hbits, byteField_encode_crcByte]
  | nop | read | crcInit | clear => rfl

/-! ## The statements -/

/-- Settles O1: the operands' fields give the operands back, and OP and the reserved bits are the command's own. -/
theorem decodeInvertsEncode : Obligations.DecodeInvertsEncode := decode_encode

/-- Settles O4, word by word. -/
theorem sampleWordsDecode : Obligations.SampleWordsDecode :=
  ⟨rfl, rfl, rfl, rfl, rfl, rfl, rfl, rfl, rfl⟩

end Sys2Proof.Machine

/-! One step, one event (20_memory.md R61 to R70): what a step does with each kind of event at the head of the list. -/

namespace Sys2Proof.Machine

/-! ## The event at the head -/

theorem step_host {s : State} {a : HostAccess} {rest : List Event} (h : s.events = .host a :: rest) :
    step s = performAccess a { s with events := rest } := by
  cases s
  cases h
  rfl

theorem step_sequencer {s : State} {rest : List Event} (h : s.events = .sequencer :: rest) :
    step s = .next (sequencerStep { s with events := rest }) := by
  cases s
  cases h
  rfl

theorem step_silent {s : State} (h : s.events = []) : step s = .next (sequencerStep s) := by
  cases s
  cases h
  rfl

theorem step_reset {s : State} {rest : List Event} (h : s.events = .reset :: rest) :
    step s = .next (applyReset { s with events := rest }) := by
  cases s
  cases h
  rfl

/-- A run goes on from the state one step leaves. -/
theorem run_succ {s t : State} (h : step s = .next t) (k : Nat) : Host.Core.run core (k + 1) s = Host.Core.run core k t := by
  have hstep : core.step s = .next t := h
  simp only [Host.Core.run, hstep]

/-! ## Accesses to the registers -/

theorem performAccess_readReg (r : Reg) (s : State) :
    performAccess (.read (regAddr s.params r) 4) s =
      .next (s.respond (.readData (regAddr s.params r) (regRead r s))) := by
  refine (if_pos (inWindow_regAddr s.params r)).trans (congrArg Host.Outcome.next ?_)
  refine (if_pos (accessAccepted_regAddr s.params r)).trans ?_
  rw [regAt_regAddr]

theorem performAccess_writeReg (r : Reg) (v : Word) (s : State) :
    performAccess (.write (regAddr s.params r) 4 v) s = regWrite r v (s.respond (.writeDone (regAddr s.params r))) := by
  refine (if_pos (inWindow_regAddr s.params r)).trans ?_
  refine (if_pos (accessAccepted_regAddr s.params r)).trans ?_
  rw [regAt_regAddr]

/-- A write to CMD presents the word to the decoder once the write is told to be done (R23, R67). -/
theorem step_writesCommand {s : State} {w : Word} {rest : List Event}
    (h : s.events = .host (.write s.params.base 4 w) :: rest) :
    step s = writeCommand w { s with events := rest, responses := s.responses ++ [.writeDone s.params.base] } :=
  (step_host h).trans (performAccess_writeReg .cmd w { s with events := rest })

theorem writeCommand_of_command {w : Word} {i : Instr} (h : decode w = .command i) (s : State) :
    writeCommand w s = exec i s := by
  delta writeCommand
  rw [h]

theorem writeCommand_of_rejected {w : Word} {r : RejReason} (h : decode w = .rejected r) (s : State) :
    writeCommand w s = .next (reject r s) := by
  delta writeCommand
  rw [h]

/-- Settles O8: the word decodes to the command. -/
theorem stepRunsTheDecodedCommand : Obligations.StepRunsTheDecodedCommand :=
  fun _ _ _ _ hev hdec => (step_writesCommand hev).trans (writeCommand_of_command hdec _)

/-- Settles O9: the word decodes to no command. -/
theorem stepRejectsAWordThatIsNoCommand : Obligations.StepRejectsAWordThatIsNoCommand :=
  fun _ _ _ _ hev hdec => (step_writesCommand hev).trans (writeCommand_of_rejected hdec _)

/-- The table's bits of a whole word are the word. -/
theorem tableWord_of_lt {w : Nat} (h : w < 4294967296) : tableWord 32 w = BitVec.ofNat 32 w :=
  congrArg (BitVec.ofNat 32) (Nat.mod_eq_of_lt h)

/-- Settles O10: the placed write is the first event listed. -/
theorem placedCommandRunsNext : Obligations.PlacedCommandRunsNext := by
  intro s w i hdec hlt
  rw [← tableWord_of_lt hlt] at hdec
  exact stepRunsTheDecodedCommand (s.withFetchWord 32 w) _ i s.events rfl hdec

/-- What the host has still to do and has been told shows in no register. -/
theorem regRead_withHostRecord (r : Reg) (s : State) (events : List Event) (responses : List HostResponse) :
    regRead r { s with events := events, responses := responses } = regRead r s :=
  regRead_congr r rfl rfl rfl rfl rfl rfl rfl rfl rfl rfl rfl rfl rfl rfl rfl rfl

/-- A read tells the host the register's value, and that is all (R65). -/
theorem step_readReg {s : State} {r : Reg} {rest : List Event}
    (h : s.events = .host (.read (regAddr s.params r) 4) :: rest) :
    step s = .next { s with
      events := rest, responses := s.responses ++ [.readData (regAddr s.params r) (regRead r s)] } := by
  rw [← regRead_withHostRecord r s rest s.responses]
  exact (step_host h).trans (performAccess_readReg r { s with events := rest })

/-- Settles O11: the second read sees the registers the first one left as they were. -/
theorem readsHaveNoSideEffects : Obligations.ReadsHaveNoSideEffects := by
  refine fun s r rest => ⟨step_readReg, fun hev => ?_⟩
  have hsecond := step_readReg (rest := rest) (r := r) (s := { s with
    events := .host (.read (regAddr s.params r) 4) :: rest
    responses := s.responses ++ [.readData (regAddr s.params r) (regRead r s)] }) rfl
  rw [regRead_withHostRecord] at hsecond
  rw [run_succ (step_readReg hev), run_succ hsecond]
  exact congrArg (fun told => Host.Outcome.next { s with events := rest, responses := told })
    (List.append_assoc s.responses _ _)

/-- Settles O12: in the window, an access that is not accepted leaves its fault. -/
theorem unacceptedAccessesChangeNothing : Obligations.UnacceptedAccessesChangeNothing := by
  intro s addr n v rest hlo hhi hbad
  have hwindow : inWindow s.params addr = true :=
    Bool.and_eq_true_iff.mpr ⟨decide_eq_true hlo, decide_eq_true hhi⟩
  have hnot : accessAccepted addr n = false :=
    Bool.and_eq_false_iff.mpr (hbad.imp beq_false_of_ne beq_false_of_ne)
  have hnot' := Bool.eq_false_iff.mp hnot
  refine ⟨fun hev => (step_host hev).trans ((if_pos hwindow).trans ?_),
    fun hev => (step_host hev).trans ((if_pos hwindow).trans ?_)⟩
  · exact congrArg Host.Outcome.next (if_neg hnot')
  · exact if_neg hnot'

/-- Settles O13: only CMD's write reaches the decoder. -/
theorem readOnlyRegistersIgnoreWrites : Obligations.ReadOnlyRegistersIgnoreWrites := by
  intro s r v rest hr hev
  refine (step_host hev).trans ((performAccess_writeReg r v { s with events := rest }).trans ?_)
  cases r with
  | cmd => exact absurd rfl hr
  | _ => rfl

/-- Settles O14: the block decodes no address outside its window. -/
theorem accessesOutsideTheWindowStop : Obligations.AccessesOutsideTheWindowStop := by
  intro s addr n v rest hout
  have hwindow : inWindow s.params addr = false :=
    Bool.and_eq_false_iff.mpr (hout.imp (fun h => decide_eq_false (Nat.not_le.mpr h))
      (fun h => decide_eq_false (Nat.not_lt.mpr h)))
  have hwindow' := Bool.eq_false_iff.mp hwindow
  exact ⟨fun hev => (step_host hev).trans (if_neg hwindow'), fun hev => (step_host hev).trans (if_neg hwindow')⟩

/-- Settles O15, event by event. -/
theorem sequencerEventIsOneSequencerStep : Obligations.SequencerEventIsOneSequencerStep :=
  fun _ => ⟨fun _ => step_sequencer, step_silent, sequencerStep_idle⟩

/-- Settles O16: each listed offset is the register's own. -/
theorem registerMap : Obligations.RegisterMap := by
  intro p r offset hmem
  have hoffset : offset = regOffset r := by
    simp only [List.mem_cons, Prod.mk.injEq, List.not_mem_nil, or_false] at hmem
    rcases hmem with ⟨rfl, h⟩ | ⟨rfl, h⟩ | ⟨rfl, h⟩ | ⟨rfl, h⟩ | ⟨rfl, h⟩ | ⟨rfl, h⟩ | ⟨rfl, h⟩ | ⟨rfl, h⟩ <;> exact h
  subst hoffset
  exact ⟨rfl, regAt_regAddr p r, inWindow_regAddr p r⟩

/-- Settles O23: the reset event is taken in every state, and the bus is owned exactly in the bus states. -/
theorem resetEvent : Obligations.ResetEvent := by
  intro s rest hev
  have hhistory : (if ({ s with events := rest } : State).ownsBus then s.history ++ [BusEvent.release] else s.history) =
      s.history ++ (if s.seqState.transacting then [BusEvent.release] else []) := by
    rw [ownsBus_eq_transacting]
    cases s.seqState.transacting with
    | false => exact (List.append_nil _).symm
    | true => rfl
  rw [step_reset hev, ← hhistory]
  rfl

/-- Settles O45, with an answer listed and with none. -/
theorem oracleAnswers : Obligations.OracleAnswers :=
  fun _ => ⟨fun _ _ h => ⟨nextDraw_cons h, drawn_cons h⟩, fun h => ⟨nextDraw_nil h, drawn_nil h⟩⟩

end Sys2Proof.Machine

/-! The commands in IDLE and while a reading is in progress (44_control.md R181 to R187, 41_sequencer.md R100, 42_validator.md
R144, R145): what each does when it is accepted, when it is rejected, and what of one reading reaches the next. -/

namespace Sys2Proof.Machine

/-! ## Accepted commands -/

theorem not_busy_of_idle {s : State} (hidle : s.seqState = .idle) : ¬ s.busy = true :=
  fun hbusy => (busy_eq_true_iff s).mp hbusy hidle

/-- Settles O24: NOP has no rejection and no effect. -/
theorem nopCompletes : Obligations.NopCompletes := fun _ => rfl

/-- Settles O25: no rejection of CFG applies. -/
theorem cfgCompletes : Obligations.CfgCompletes := by
  intro s clk hidle hclk
  have hmode : ¬ (0#1 = 1#1) := nofun
  exact congrArg Host.Outcome.next ((if_neg (not_busy_of_idle hidle)).trans ((if_neg hmode).trans (if_neg hclk)))

/-- Settles O27: no rejection of READ applies. -/
theorem readCompletes : Obligations.ReadCompletes := by
  intro s hidle hcfg
  have hconfigured : ¬ (!s.cfgDone) = true := by rw [hcfg]; nofun
  exact congrArg Host.Outcome.next ((if_neg (not_busy_of_idle hidle)).trans (if_neg hconfigured))

/-- Settles O28: in IDLE it is READ's one rejection. -/
theorem readBeforeCfgIsRejected : Obligations.ReadBeforeCfgIsRejected := by
  intro s hidle hcfg
  have hunconfigured : (!s.cfgDone) = true := by rw [hcfg]; rfl
  exact congrArg Host.Outcome.next ((if_neg (not_busy_of_idle hidle)).trans (if_pos hunconfigured))

/-- Settles O29: in IDLE CRC_INIT has no rejection. -/
theorem crcInitCompletes : Obligations.CrcInitCompletes :=
  fun _ hidle => congrArg Host.Outcome.next (if_neg (not_busy_of_idle hidle))

/-- Settles O30: in IDLE CRC_BYTE has no rejection. -/
theorem crcByteCompletes : Obligations.CrcByteCompletes :=
  fun _ _ hidle => congrArg Host.Outcome.next (if_neg (not_busy_of_idle hidle))

/-- Settles O31: in IDLE CLEAR has no rejection. -/
theorem clearCompletes : Obligations.ClearCompletes :=
  fun _ hidle => congrArg Host.Outcome.next (if_neg (not_busy_of_idle hidle))

/-! ## Rejected commands -/

/-- Settles O32: BUSY is the first rejection of every command but NOP. -/
theorem commandsAreRejectedWhileBusy : Obligations.CommandsAreRejectedWhileBusy :=
  fun s _ hbusy hi => exec_of_busy hi ((busy_eq_true_iff s).mpr hbusy)

/-! ## What reaches the next reading -/

/-- Settles O41: an accepted READ writes every field the hypotheses do not name. -/
theorem nothingElseSurvivesIntoAReading : Obligations.NothingElseSurvivesIntoAReading := by
  intro s₁ s₂ hidle₁ hidle₂ hcfg₁ hcfg₂ hmode hclk hrej hreason hhist hparams hevents hanswers hdraws hresp
  refine ⟨_, readCompletes s₁ hidle₁ hcfg₁, (readCompletes s₂ hidle₂ hcfg₂).trans ?_, rfl⟩
  simp [hcfg₁, hcfg₂, hmode, hclk, hrej, hreason, hhist, hparams, hevents, hanswers, hdraws, hresp]

end Sys2Proof.Machine
